-- ==== Sys2Proof/Word.lean ====
section
/-! DEFINITION. The widths of the machine: the 8-bit unit of access (R70), the 16-bit counters (R7: TICK_W = TO_W =
SLOT_W = 16) and the 16-bit stimulus word (R121), in which the narrower words of the other formats are carried
zero-extended. -/

namespace Sys2Proof

/-- The unit of access, 8 bits (R70): an intensity (R6), a received character's data (R92), PHASE (R100). -/
abbrev Byte := BitVec 8

/-- A counter register of `TICK_W`, `TO_W` or `SLOT_W` bits (R7, decisions D1 to D3); `+` on it is modulo 2^16 (R13). -/
abbrev Counter := BitVec 16

/-- A stimulus word (format EVT, R121). Words of the shorter formats are carried in it, zero-extended. -/
abbrev StimWord := BitVec 16

/-- One value per colour channel (R6: N_CH = 3), in the order red, green, blue. -/
structure Colour where
  r : Byte
  g : Byte
  b : Byte
deriving DecidableEq, Repr

/-- The level of the three colour output lines (R32), `true` = channel ON. -/
structure Lines where
  r : Bool
  g : Bool
  b : Bool
deriving DecidableEq, Repr

/-- All three channels 0: fully off (R21). -/
def Colour.black : Colour := ⟨0, 0, 0⟩

end Sys2Proof
end

