-- ==== Sys2Proof/Config.lean ====
section
/-! DEFINITION. What the spec fixes as constants (R6) and what it leaves OPEN as an argument of the model (R7). The OPEN
parameters are plain data carried in `State.cfg`, which no step writes: a statement about every state is a statement
about every permitted value of every parameter (log entry 2). `T_UNIT` and `T_WDT` are durations that no rule reads
(R9) and are left out (NOTES.md, Scope). -/

namespace Sys2Proof

/-- `LOSS_THRESHOLD` (R6, D4): PWM cycles without a commit after which the signal counts as lost. -/
def lossThreshold : Nat := 480

/-- `PLACEHOLDER` (R6): the colour of the reserved Fun sub-modes. -/
def placeholder : Colour := ⟨32, 32, 32⟩

/-- `MC_BYTE_ORDER` (R71): which piece of a register wider than 8 bits the mode controller moves first. -/
inductive ByteOrder where
  | lowFirst
  | highFirst
deriving DecidableEq, Repr

/-- `STOP_CHECK` (R7, D24): which stop bits the line-level receiver of R180 tests. -/
inductive StopCheck where
  | first
  | both
deriving DecidableEq, Repr

/-- The OPEN parameters of R7 that some rule reads. -/
structure Config where
  /-- `FAST_BIT` (D5): the bit of TICK that drives the fast blink. -/
  fastBit : Fin 16
  /-- `SLOW_BIT` (D5): the bit of TICK that drives the slow blink. -/
  slowBit : Fin 16
  /-- `MODE_PIN_DMX` (D12): the level of the mode pin that selects DMX mode. -/
  modePinDmx : Bool
  /-- `MC_BYTE_ORDER` of the TIMEOUT read (D17). -/
  timeoutReadOrder : ByteOrder
  /-- `MC_BYTE_ORDER` of the TIMEOUT write (D17). -/
  timeoutWriteOrder : ByteOrder
  /-- `MC_BYTE_ORDER` of the ADDRESS write (D17). -/
  addressOrder : ByteOrder
  /-- `STOP_CHECK` (D24), read by the line-level reference receiver only. -/
  stopCheck : StopCheck
deriving DecidableEq, Repr

/-- The defaults of R7; MC_BYTE_ORDER has none there, and takes the value that 95_test_vectors.md uses
(DESIGN CHOICE, log entry 2). -/
def Config.standard : Config where
  fastBit := 5
  slowBit := 8
  modePinDmx := true
  timeoutReadOrder := .lowFirst
  timeoutWriteOrder := .lowFirst
  addressOrder := .lowFirst
  stopCheck := .first

end Sys2Proof
end

