-- ==== Sys2Proof/Syntax.lean ====
section
/-! DEFINITION. The operations (R90): one constructor per row of spec/opcode_table.json, in the table's order. They are of
six formats, one per decode site (R91): PHASE, RXC, MCS, FUN, SWW and the stimulus word EVT. -/

namespace Sys2Proof

/-- The operations of the three blocks and the stimuli that drive them (R90). -/
inductive Instr where
  -- format PHASE (R101): the slices of the PWM engine, selected by stimulus TMR and PHASE
  | pwmP7
  | pwmP6
  | pwmP5
  | pwmP4
  | pwmP3
  | pwmP2
  | pwmP1
  | pwmP0
  -- format RXC (R93): the received characters, with the data bits `d`
  | rxBreak
  | rxFerr (d : Byte)
  | rxData (d : Byte)
  -- format MCS (R120): the micro-steps of the mode controller, selected by stimulus MSTEP and MC_STEP
  | mcKick
  | mcRdsw
  | mcWrmode
  | mcWraddr0
  | mcWraddr1
  | mcDispatch
  | mcIetmr1
  | mcIerx1
  | mcRdto0
  | mcRdto1
  | mcTest
  | mcBlkr
  | mcBlkg
  | mcBlkb
  | mcClamp0
  | mcClamp1
  | mcLedslow
  | mcLedfast
  | mcFietmr1
  | mcIerx0
  | mcLedon
  | mcFundec
  | mcFunr
  | mcFung
  | mcFunb
  -- format FUN (R110): the rows of the Fun colour decode, `x` the bits of ADDRESS that the row ignores
  | funRsvd8 (x : BitVec 8)
  | funRsvd7 (x : BitVec 7)
  | funRed (x : BitVec 6)
  | funGreen (x : BitVec 5)
  | funBlue (x : BitVec 4)
  | funYellow (x : BitVec 3)
  | funMagenta (x : BitVec 2)
  | funCyan (x : BitVec 1)
  | funWhite
  | funBlack
  -- format SWW (R106): the switch decode
  | swDecode (swMode : Bool) (swAh : BitVec 8) (swA0 : Bool)
  -- format EVT (R122): the stimuli
  | tmr
  | rxc (f : Bool) (d : Byte)
  | poll
  | mstep
  | sw (w : BitVec 10)
  | wdtx
  | por
deriving DecidableEq, Repr

/-- The decode sites (R91): each format belongs to one of them and no site sees another's words. -/
inductive Site where
  | phase
  | rxc
  | mcs
  | fun9
  | sww
  | evt
deriving DecidableEq, Repr

/-- The width of a site's words (R92, R100, R106, R110, R120, R121). -/
def Site.width : Site → Nat
  | .phase => 8
  | .rxc => 9
  | .mcs => 5
  | .fun9 => 9
  | .sww => 10
  | .evt => 16

/-- The site at which an operation is decoded (the families of R90). -/
def Instr.site : Instr → Site
  | .pwmP7 => .phase
  | .pwmP6 => .phase
  | .pwmP5 => .phase
  | .pwmP4 => .phase
  | .pwmP3 => .phase
  | .pwmP2 => .phase
  | .pwmP1 => .phase
  | .pwmP0 => .phase
  | .rxBreak => .rxc
  | .rxFerr _ => .rxc
  | .rxData _ => .rxc
  | .mcKick => .mcs
  | .mcRdsw => .mcs
  | .mcWrmode => .mcs
  | .mcWraddr0 => .mcs
  | .mcWraddr1 => .mcs
  | .mcDispatch => .mcs
  | .mcIetmr1 => .mcs
  | .mcIerx1 => .mcs
  | .mcRdto0 => .mcs
  | .mcRdto1 => .mcs
  | .mcTest => .mcs
  | .mcBlkr => .mcs
  | .mcBlkg => .mcs
  | .mcBlkb => .mcs
  | .mcClamp0 => .mcs
  | .mcClamp1 => .mcs
  | .mcLedslow => .mcs
  | .mcLedfast => .mcs
  | .mcFietmr1 => .mcs
  | .mcIerx0 => .mcs
  | .mcLedon => .mcs
  | .mcFundec => .mcs
  | .mcFunr => .mcs
  | .mcFung => .mcs
  | .mcFunb => .mcs
  | .funRsvd8 _ => .fun9
  | .funRsvd7 _ => .fun9
  | .funRed _ => .fun9
  | .funGreen _ => .fun9
  | .funBlue _ => .fun9
  | .funYellow _ => .fun9
  | .funMagenta _ => .fun9
  | .funCyan _ => .fun9
  | .funWhite => .fun9
  | .funBlack => .fun9
  | .swDecode _ _ _ => .sww
  | .tmr => .evt
  | .rxc _ _ => .evt
  | .poll => .evt
  | .mstep => .evt
  | .sw _ => .evt
  | .wdtx => .evt
  | .por => .evt

end Sys2Proof
end

