-- ==== Sys2Proof/WellFormed.lean ====
section
/-! DEFINITION. The checks on an operation and on the OPEN parameters that their types do not make. -/

namespace Sys2Proof

/-- A well-formed operation. The one operand that its type does not bound is the data of RX.FERR: with `f = 1` a zero
byte is the break (R93, R114), so RX.FERR has `d ≠ 0`. -/
def Instr.wf : Instr → Bool
  | .pwmP7 => true
  | .pwmP6 => true
  | .pwmP5 => true
  | .pwmP4 => true
  | .pwmP3 => true
  | .pwmP2 => true
  | .pwmP1 => true
  | .pwmP0 => true
  | .rxBreak => true
  | .rxFerr d => d != 0
  | .rxData _ => true
  | .mcKick => true
  | .mcRdsw => true
  | .mcWrmode => true
  | .mcWraddr0 => true
  | .mcWraddr1 => true
  | .mcDispatch => true
  | .mcIetmr1 => true
  | .mcIerx1 => true
  | .mcRdto0 => true
  | .mcRdto1 => true
  | .mcTest => true
  | .mcBlkr => true
  | .mcBlkg => true
  | .mcBlkb => true
  | .mcClamp0 => true
  | .mcClamp1 => true
  | .mcLedslow => true
  | .mcLedfast => true
  | .mcFietmr1 => true
  | .mcIerx0 => true
  | .mcLedon => true
  | .mcFundec => true
  | .mcFunr => true
  | .mcFung => true
  | .mcFunb => true
  | .funRsvd8 _ => true
  | .funRsvd7 _ => true
  | .funRed _ => true
  | .funGreen _ => true
  | .funBlue _ => true
  | .funYellow _ => true
  | .funMagenta _ => true
  | .funCyan _ => true
  | .funWhite => true
  | .funBlack => true
  | .swDecode _ _ _ => true
  | .tmr => true
  | .rxc _ _ => true
  | .poll => true
  | .mstep => true
  | .sw _ => true
  | .wdtx => true
  | .por => true

/-- The constraint R7 puts on the blink bits: FAST_BIT < SLOW_BIT (both below TICK_W by their type). -/
def Config.wf (c : Config) : Bool := decide (c.fastBit < c.slowBit)

end Sys2Proof
end

