-- ==== Sys2Proof/Decode.lean ====
section
/-! DEFINITION. Decoding and encoding. There is one decoder per decode site (R91), each total on every word of its
format and rejecting by name the words that select no row; `encode` writes the word of a well-formed operation from
the same tables. -/

namespace Sys2Proof

/-- Why a decoder rejects a word. -/
inductive Reject where
  /-- The word has a bit set above its format's width. -/
  | wordTooWide (site : Site) (w : StimWord)
  /-- PHASE is not one of the eight one-hot values (R112). -/
  | phaseNotOneHot (p : Byte)
  /-- MC_STEP is 25 to 31 (R115). -/
  | mcStepReserved (n : BitVec 5)
  /-- A stimulus word outside the seven classes (R122: every other word is reserved and rejected). -/
  | reservedStimulus (w : StimWord)
deriving DecidableEq, Repr

/-- Format PHASE, the eight rows of R101. -/
def decodePhase (p : Byte) : Except Reject Instr :=
  if p = 0x80 then .ok .pwmP7
  else if p = 0x40 then .ok .pwmP6
  else if p = 0x20 then .ok .pwmP5
  else if p = 0x10 then .ok .pwmP4
  else if p = 0x08 then .ok .pwmP3
  else if p = 0x04 then .ok .pwmP2
  else if p = 0x02 then .ok .pwmP1
  else if p = 0x01 then .ok .pwmP0
  else .error (.phaseNotOneHot p)

/-- Format RXC, the classification of R93: RX.BREAK is tested first. -/
def decodeRxc (w : BitVec 9) : Instr :=
  if w = 0x100 then .rxBreak
  else if w &&& 0x100 = 0x100 then .rxFerr (w.extractLsb' 0 8)
  else .rxData (w.extractLsb' 0 8)

/-- Format MCS, the step table of R120. -/
def decodeMcs (n : BitVec 5) : Except Reject Instr :=
  match n.toNat with
  | 0 => .ok .mcKick
  | 1 => .ok .mcRdsw
  | 2 => .ok .mcWrmode
  | 3 => .ok .mcWraddr0
  | 4 => .ok .mcWraddr1
  | 5 => .ok .mcDispatch
  | 6 => .ok .mcIetmr1
  | 7 => .ok .mcIerx1
  | 8 => .ok .mcRdto0
  | 9 => .ok .mcRdto1
  | 10 => .ok .mcTest
  | 11 => .ok .mcBlkr
  | 12 => .ok .mcBlkg
  | 13 => .ok .mcBlkb
  | 14 => .ok .mcClamp0
  | 15 => .ok .mcClamp1
  | 16 => .ok .mcLedslow
  | 17 => .ok .mcLedfast
  | 18 => .ok .mcFietmr1
  | 19 => .ok .mcIerx0
  | 20 => .ok .mcLedon
  | 21 => .ok .mcFundec
  | 22 => .ok .mcFunr
  | 23 => .ok .mcFung
  | 24 => .ok .mcFunb
  | _ => .error (.mcStepReserved n)

/-- Format FUN, the ten rows of R110 by match and mask; they are disjoint and cover every address. -/
def decodeFun (a : BitVec 9) : Instr :=
  if a &&& 0x100 = 0x100 then .funRsvd8 (a.extractLsb' 0 8)
  else if a &&& 0x180 = 0x080 then .funRsvd7 (a.extractLsb' 0 7)
  else if a &&& 0x181 = 0x001 then .funRed (a.extractLsb' 1 6)
  else if a &&& 0x183 = 0x002 then .funGreen (a.extractLsb' 2 5)
  else if a &&& 0x187 = 0x004 then .funBlue (a.extractLsb' 3 4)
  else if a &&& 0x18F = 0x008 then .funYellow (a.extractLsb' 4 3)
  else if a &&& 0x19F = 0x010 then .funMagenta (a.extractLsb' 5 2)
  else if a &&& 0x1BF = 0x020 then .funCyan (a.extractLsb' 6 1)
  else if a = 0x040 then .funWhite
  else .funBlack

/-- Format SWW (R106): every 10-bit word decodes. -/
def decodeSww (w : BitVec 10) : Instr :=
  .swDecode (w.getLsbD 9) (w.extractLsb' 1 8) (w.getLsbD 0)

/-- Format EVT, the stimulus classes of R122 by match and mask; every other word is reserved. -/
def decodeStimulus (w : StimWord) : Except Reject Instr :=
  if w = 0x1000 then .ok .tmr
  else if w &&& 0xFE00 = 0x2000 then .ok (.rxc (w.getLsbD 8) (w.extractLsb' 0 8))
  else if w = 0x3000 then .ok .poll
  else if w = 0x3400 then .ok .mstep
  else if w &&& 0xFC00 = 0x4000 then .ok (.sw (w.extractLsb' 0 10))
  else if w = 0x5000 then .ok .wdtx
  else if w = 0xF000 then .ok .por
  else .error (.reservedStimulus w)

/-- Decode a word at a site (R91). A word with a bit above the site's width is no word of its format. -/
def decode (site : Site) (w : StimWord) : Except Reject Instr :=
  if 2 ^ site.width ≤ w.toNat then .error (.wordTooWide site w)
  else
    match site with
    | .phase => decodePhase (w.setWidth 8)
    | .rxc => .ok (decodeRxc (w.setWidth 9))
    | .mcs => decodeMcs (w.setWidth 5)
    | .fun9 => .ok (decodeFun (w.setWidth 9))
    | .sww => .ok (decodeSww (w.setWidth 10))
    | .evt => decodeStimulus w

/-- The switch word `{SW_MODE, SW_AH[7:0], SW_A0}` of R106. -/
def switchWord (swMode : Bool) (swAh : BitVec 8) (swA0 : Bool) : BitVec 10 :=
  BitVec.ofBool swMode ++ swAh ++ BitVec.ofBool swA0

/-- The word of a received character, `{f, d}` (R92). -/
def charWord (f : Bool) (d : Byte) : BitVec 9 := BitVec.ofBool f ++ d

/-- The word of an operation at its site, from the tables of R93, R101, R106, R110, R120 and R122. -/
def encode : Instr → StimWord
  | .pwmP7 => 0x80
  | .pwmP6 => 0x40
  | .pwmP5 => 0x20
  | .pwmP4 => 0x10
  | .pwmP3 => 0x08
  | .pwmP2 => 0x04
  | .pwmP1 => 0x02
  | .pwmP0 => 0x01
  | .rxBreak => 0x100
  | .rxFerr d => (charWord true d).setWidth 16
  | .rxData d => (charWord false d).setWidth 16
  | .mcKick => 0
  | .mcRdsw => 1
  | .mcWrmode => 2
  | .mcWraddr0 => 3
  | .mcWraddr1 => 4
  | .mcDispatch => 5
  | .mcIetmr1 => 6
  | .mcIerx1 => 7
  | .mcRdto0 => 8
  | .mcRdto1 => 9
  | .mcTest => 10
  | .mcBlkr => 11
  | .mcBlkg => 12
  | .mcBlkb => 13
  | .mcClamp0 => 14
  | .mcClamp1 => 15
  | .mcLedslow => 16
  | .mcLedfast => 17
  | .mcFietmr1 => 18
  | .mcIerx0 => 19
  | .mcLedon => 20
  | .mcFundec => 21
  | .mcFunr => 22
  | .mcFung => 23
  | .mcFunb => 24
  | .funRsvd8 x => (0b1#1 ++ x).setWidth 16
  | .funRsvd7 x => (0b01#2 ++ x).setWidth 16
  | .funRed x => (x ++ 0b1#1).setWidth 16
  | .funGreen x => (x ++ 0b10#2).setWidth 16
  | .funBlue x => (x ++ 0b100#3).setWidth 16
  | .funYellow x => (x ++ 0b1000#4).setWidth 16
  | .funMagenta x => (x ++ 0b10000#5).setWidth 16
  | .funCyan x => (x ++ 0b100000#6).setWidth 16
  | .funWhite => 0x040
  | .funBlack => 0x000
  | .swDecode m h a => (switchWord m h a).setWidth 16
  | .tmr => 0x1000
  | .rxc f d => 0b0010000#7 ++ charWord f d
  | .poll => 0x3000
  | .mstep => 0x3400
  | .sw w => 0b010000#6 ++ w
  | .wdtx => 0x5000
  | .por => 0xF000

/-- The decoder's answer as an option. -/
def accepted : Except Reject Instr → Option Instr
  | .ok i => some i
  | .error _ => none

/-- The operation the table's word `w` of `nbits` bits stands for. No decode site sees another's words (R91), so a word
does not say its format, and two formats of one width in whole bytes share words. The format whose own width is
`nbits` is asked first; a narrower one takes the words it leaves free; of the two 9-bit formats FUN is asked, because
every character word is also an argument of the stimulus RXC (log entry 3). -/
def decodeTableWord (nbits w : Nat) : Option Instr :=
  if 2 ^ nbits ≤ w then none
  else
    let x : StimWord := BitVec.ofNat 16 w
    match nbits with
    | 5 => accepted (decode .mcs x)
    | 8 => (accepted (decode .phase x)).or (accepted (decode .mcs x))
    | 9 => accepted (decode .fun9 x)
    | 10 => accepted (decode .sww x)
    | 16 =>
      ((accepted (decode .evt x)).or (accepted (decode .fun9 x))).or (accepted (decode .sww x))
    | _ => none

end Sys2Proof
end

