-- ==== Sys2Proof/Machine/State.lean ====
section
/-! DEFINITION. The state of the machine: every register of 10_state.md (R20 to R38), the environment's switch pins and
stimulus list, and the model's own bookkeeping fields; the reset state (R43); the reasons a step can stop. -/

namespace Sys2Proof.Machine

open Sys2Proof

/-- The two operating modes (R29, R264): `MODE = 0` is DMX mode, `MODE = 1` is Fun mode. -/
inductive Mode where
  | dmx
  | funMode
deriving DecidableEq, Repr

/-- The encoding of `MODE` as its one bit (R29, D12). -/
def Mode.bit : Mode → BitVec 1
  | .dmx => 0
  | .funMode => 1

/-- What the combinational switch decode gives for a switch word (R237). -/
structure SwitchSetting where
  mode : Mode
  address : BitVec 9
deriving DecidableEq, Repr

/-- The whole state. There is no addressable memory (R60) and no program counter (R24): PHASE, SLOT and MC_STEP are the
sequencer positions, and the list of stimulus words drives a run (R121). -/
structure State where
  /-- PHASE (R25): the one-hot slice value of the PWM engine. -/
  phase : Byte
  /-- TICK (R26): PWM cycles, modulo 2^16. -/
  tick : Counter
  /-- TIMEOUT (R33): PWM cycles since the last commit. -/
  timeout : Counter
  /-- DISP_R, DISP_G, DISP_B (R21): the displayed colour. -/
  disp : Colour
  /-- STG_R, STG_G, STG_B (R23): the staging colour of the frame in progress. -/
  stg : Colour
  /-- SLOT (R27): the position of the next character in its frame. -/
  slot : Counter
  /-- LASTLEN (R34): the length of the last frame whose length differed. -/
  lastlen : Counter
  /-- GOOD (R28): the Good-Packet Flag. -/
  good : Bool
  /-- ADDRESS (R35). -/
  address : BitVec 9
  /-- MODE (R29). -/
  mode : Mode
  /-- IE_TMR (R30): the timing interrupt is enabled. -/
  ieTmr : Bool
  /-- IE_RX (R30): the serial-receive interrupt is enabled. -/
  ieRx : Bool
  /-- LED (R31): the status indicator, `true` = lit. -/
  led : Bool
  /-- OUT_R, OUT_G, OUT_B (R32): the colour output lines. -/
  out : Lines
  /-- TMR_LOAD (R37): the slice duration last programmed, in units of T_UNIT. -/
  tmrLoad : Byte
  /-- MC_STEP (R36): the mode controller's position within its pass. -/
  mcStep : BitVec 5
  /-- SWLATCH (R38): the switch word the pass sampled. -/
  swlatch : BitVec 10
  /-- TOSNAP (R38): the copy of TIMEOUT assembled byte by byte. -/
  tosnap : Counter
  /-- FUNCOL (R38): the Fun colour computed by MC.FUNDEC. -/
  funcol : Colour
  /-- The ENVIRONMENT's: the levels of the ten switch pins (R40, R105), set by the stimulus SW (R122). -/
  pins : BitVec 10
  /-- The ENVIRONMENT's: the stimulus words still to come (R121). -/
  stim : List StimWord
  /-- The implementation's OPEN parameters (R7); no step writes them (R42). -/
  cfg : Config
  /-- The MODEL's own: how many `wdt_kick` pulses the run has put out (R201); no operation reads it. -/
  wdtKicks : Nat
  /-- The MODEL's own: the outputs of the combinational switch decode as last applied (R237). -/
  swSetting : SwitchSetting
deriving DecidableEq, Repr

/-- The reasons a step can stop with a fault. No operation of the hardware faults: it never traps on an error (R12) and
no condition stops an agent (R254). -/
inductive Fault where
  /-- Raised by `step` alone, when the stimulus list has ended: nothing drives the machine any more, and the run ends
  there (92_eei_decisions.md, K2 table, host interface). Safe: nothing can be proved of a step that no stimulus makes. -/
  | noStimulus
deriving DecidableEq, Repr

/-- The reasons a step can be refused. -/
inductive Refusal where
  /-- Raised by `exec` for an instruction that has no meaning yet. Safe. No arm raises it in this model. -/
  | notModelled (mnemonic : String)
  /-- Raised by `step` on a stimulus word outside the seven classes (R115, R122, U18). Safe: the spec gives it none. -/
  | reservedStimulus (w : StimWord)
  /-- Raised by TMR while `IE_TMR = 0`: such a stimulus is not admitted (R256, U8). Safe. -/
  | tmrNotAdmitted
  /-- Raised by `step` in a state whose PHASE is not one-hot, on every stimulus but POR (R112, D30, R290, U1), and by TMR itself
  there: no behaviour may be picked. Safe: the spec refuses the state. -/
  | phaseNotOneHot (p : Byte)
  /-- Raised by `step` in a state whose MC_STEP is 25 to 31, on every stimulus but POR (R115, R290, U2), and by MSTEP and POLL
  themselves there. Safe: the spec refuses the state. -/
  | mcStepReserved (n : BitVec 5)
deriving DecidableEq, Repr

/-- The outcome of an operation. -/
abbrev Result := Host.Outcome State Fault Refusal

/-- The machine right after reset (R43, R290): every register as R43 has it. The fields that are no register of the
spec have values of the model's choice: the pins at no switch active (log entry 4), no stimulus pending (log entry 1),
the parameters at R7's defaults (log entry 2), no `wdt_kick` counted (log entry 5), the decode outputs at DMX and 0
(log entry 6). -/
def State.reset : State where
  phase := 0x80
  tick := 0
  timeout := 0
  disp := Colour.black
  stg := Colour.black
  slot := 0
  lastlen := 0
  good := false
  address := 0
  mode := .dmx
  ieTmr := false
  ieRx := false
  led := false
  out := ⟨false, false, false⟩
  tmrLoad := 0
  mcStep := 0
  swlatch := 0
  tosnap := 0
  funcol := Colour.black
  pins := 0x3FF
  stim := []
  cfg := Config.standard
  wdtKicks := 0
  swSetting := ⟨.dmx, 0⟩

end Sys2Proof.Machine
end

