-- ==== Sys2Proof/Machine/Operands.lean ====
section
/-! DEFINITION. The operands: window positions (R107), the byte-sized pieces of the mode controller's two-step accesses
(R70, R71), the switch decode (R106, R237) and the Fun colours (R110, R226). -/

namespace Sys2Proof.Machine

open Sys2Proof

/-- The position of channel `k` of the window: `ADDRESS + k` as a natural, not reduced modulo 512 (R66, R107). -/
def windowPos (address : BitVec 9) (k : Nat) : Nat := address.toNat + k

/-- The two pieces of a register wider than 8 bits: bits 7..0, and the bits above them (R71). -/
inductive Piece where
  | low
  | high
deriving DecidableEq, Repr

/-- The piece moved by the first micro-step of a pair (R71, R120). -/
def firstPiece : ByteOrder → Piece
  | .lowFirst => .low
  | .highFirst => .high

/-- The piece moved by the second micro-step of a pair (R71, R120). -/
def secondPiece : ByteOrder → Piece
  | .lowFirst => .high
  | .highFirst => .low

/-- Bits 7..0 of a counter. -/
def lowByte (x : Counter) : Byte := x.extractLsb' 0 8

/-- Bits 15..8 of a counter. -/
def highByte (x : Counter) : Byte := x.extractLsb' 8 8

/-- `dst` with one piece taken from `src`, the other kept. -/
def replacePiece (p : Piece) (dst src : Counter) : Counter :=
  match p with
  | .low => highByte dst ++ lowByte src
  | .high => highByte src ++ lowByte dst

/-- The same for ADDRESS: the low piece is bits 7..0, the high piece bit 8 (R204, R205). -/
def replaceAddressPiece (p : Piece) (dst src : BitVec 9) : BitVec 9 :=
  match p with
  | .low => dst.extractLsb' 8 1 ++ src.extractLsb' 0 8
  | .high => src.extractLsb' 8 1 ++ dst.extractLsb' 0 8

/-- `SW.DECODE` (R237): `MODE` from the mode pin against MODE_PIN_DMX, `ADDRESS` the complement of the other nine pins. -/
def switchDecode (c : Config) (w : BitVec 10) : SwitchSetting where
  mode := if w.getLsbD 9 = c.modePinDmx then .dmx else .funMode
  address := ~~~(w.extractLsb' 0 9)

/-- `FunColour` (R226): the reserved bits 8 and 7 first, then the lowest set bit among bits 6..0. -/
def funColour (a : BitVec 9) : Colour :=
  if a.getLsbD 8 ∨ a.getLsbD 7 then placeholder
  else if a.getLsbD 0 then ⟨255, 0, 0⟩
  else if a.getLsbD 1 then ⟨0, 255, 0⟩
  else if a.getLsbD 2 then ⟨0, 0, 255⟩
  else if a.getLsbD 3 then ⟨255, 255, 0⟩
  else if a.getLsbD 4 then ⟨255, 0, 255⟩
  else if a.getLsbD 5 then ⟨0, 255, 255⟩
  else if a.getLsbD 6 then ⟨255, 255, 255⟩
  else Colour.black

end Sys2Proof.Machine
end

