-- ==== Sys2Proof/Machine/Flags.lean ====
section
/-! DEFINITION. The one-bit computations: the tests that clear GOOD (R28), the loss test (R211), the output lines (R131) and
the indicator (R31); and when the sequencer positions are legal (R112, R115). -/

namespace Sys2Proof.Machine

open Sys2Proof

/-- Start-code violation X2 (R167): a non-zero byte at position 0. -/
def badStartCode (slot : Counter) (d : Byte) : Bool := slot == 0 && d != 0

/-- Frame-length instability X3 (R162): the count just ended differs from LASTLEN. -/
def lengthChanged (slot lastlen : Counter) : Bool := slot != lastlen

/-- Signal loss X4 (R211): unsigned, on the snapshot. -/
def signalLost (tosnap : Counter) : Bool := decide (lossThreshold ≤ tosnap.toNat)

/-- The multiplexer (R131): bit `k` of each intensity. -/
def outputLines (c : Colour) (k : Nat) : Lines := ⟨c.r.getLsbD k, c.g.getLsbD k, c.b.getLsbD k⟩

/-- The slow-blink level `TICK[SLOW_BIT]` (R217). -/
def slowBlink (c : Config) (tick : Counter) : Bool := tick.getLsbD c.slowBit.val

/-- The fast-blink level `TICK[FAST_BIT]` (R218). -/
def fastBlink (c : Config) (tick : Counter) : Bool := tick.getLsbD c.fastBit.val

/-- PHASE is one of the eight one-hot values (R25, R44). -/
abbrev State.phaseOneHot (s : State) : Prop :=
  s.phase = 0x80 ∨ s.phase = 0x40 ∨ s.phase = 0x20 ∨ s.phase = 0x10 ∨ s.phase = 0x08 ∨ s.phase = 0x04 ∨
    s.phase = 0x02 ∨ s.phase = 0x01

/-- MC_STEP selects a micro-step (R115, R120). -/
abbrev State.mcStepLegal (s : State) : Prop := s.mcStep.toNat < 25

/-- The sequencer positions are legal: the states for which the spec gives every stimulus a behaviour (D30). -/
abbrev State.positionsLegal (s : State) : Prop := s.phaseOneHot ∧ s.mcStepLegal

end Sys2Proof.Machine
end

