-- ==== Sys2Proof/Machine/Ops.lean ====
section
/-! DEFINITION. The named operations on the registers that the meanings are built from, the admission of the two interrupts
(R256 to R262) and reset (R290, R291). The hardware has no trap mechanism: a handler's entry saves nothing and its
return restores nothing (R261, R262), so an interrupt is its admission test and then the handler's own effect, and reset
is the only event that discards state (R263). -/

namespace Sys2Proof.Machine

open Sys2Proof

/-! Sequencing. -/

/-- Run `f` after an operation that answers a next state; a stop stays as it is. -/
def andThen (o : Result) (f : State → Result) : Result :=
  match o with
  | .next s => f s
  | .fault r => .fault r
  | .refused r => .refused r

/-- `MC_STEP <- n` (R36). -/
def State.goto (s : State) (n : BitVec 5) : State := { s with mcStep := n }

/-- `PHASE <- p` (R25). -/
def State.toPhase (s : State) (p : Byte) : State := { s with phase := p }

/-! The PWM engine. -/

/-- Steps 1 and 2 of the TMR handler in the slice of intensity bit `k` (R130): the three output lines take that bit and
the slice timer is programmed for `2^k` units. -/
def State.renderSlice (s : State) (k : Nat) : State :=
  { s with out := outputLines s.disp k, tmrLoad := 1#8 <<< k }

/-- Step 3 of the TMR handler, at the wrap (R139): both counters advance. -/
def State.countCycle (s : State) : State := { s with tick := s.tick + 1, timeout := s.timeout + 1 }

/-! The DMX512 receiver. -/

/-- `GOOD <- 0` (R28). -/
def State.clearGood (s : State) : State := { s with good := false }

/-- `SLOT <- SLOT + 1` modulo 2^16 (R169). -/
def State.advanceSlot (s : State) : State := { s with slot := s.slot + 1 }

/-- `LASTLEN <- SLOT` (R162). -/
def State.recordLength (s : State) : State := { s with lastlen := s.slot }

/-- `STG_R <- d` (R168). -/
def State.stageRed (s : State) (d : Byte) : State := { s with stg := { s.stg with r := d } }

/-- `STG_G <- d` (R168). -/
def State.stageGreen (s : State) (d : Byte) : State := { s with stg := { s.stg with g := d } }

/-- `STG_B <- d` (R168). -/
def State.stageBlue (s : State) (d : Byte) : State := { s with stg := { s.stg with b := d } }

/-- The commit (R163): the three staging bytes to the display and TIMEOUT to 0, in one indivisible step. -/
def State.commit (s : State) : State := { s with disp := s.stg, timeout := 0 }

/-- Step c of RX.BREAK, the re-arm (R164). -/
def State.rearm (s : State) : State := { s with stg := Colour.black, good := true, slot := 0 }

/-- Step a of RX.BREAK, the length test (R162). -/
def State.judgeLength (s : State) : State :=
  if lengthChanged s.slot s.lastlen then s.recordLength.clearGood else s

/-- Step b of RX.BREAK (R163): commit if GOOD. -/
def State.commitIfGood (s : State) : State := if s.good then s.commit else s

/-- Step a of RX.DATA, the start-code test (R167). -/
def State.testStartCode (s : State) (d : Byte) : State :=
  if badStartCode s.slot d then s.clearGood else s

/-- Step b of RX.DATA, the channel address decoder (R168). -/
def State.storeWindow (s : State) (d : Byte) : State :=
  if s.slot.toNat = windowPos s.address 0 then s.stageRed d
  else if s.slot.toNat = windowPos s.address 1 then s.stageGreen d
  else if s.slot.toNat = windowPos s.address 2 then s.stageBlue d
  else s

/-! The mode controller. -/

/-- The pulse `wdt_kick` (R201); it writes no register of the spec. -/
def State.kick (s : State) : State := { s with wdtKicks := s.wdtKicks + 1 }

/-- `SWLATCH <-` the ten pin levels, at one instant (R202). -/
def State.sampleSwitches (s : State) : State := { s with swlatch := s.pins }

/-- Drive the combinational switch decode with a word (R237). -/
def State.decodeSwitches (s : State) (w : BitVec 10) : State :=
  { s with swSetting := switchDecode s.cfg w }

/-- `MODE <-` the decode's mode (R203). -/
def State.writeMode (s : State) : State := { s with mode := s.swSetting.mode }

/-- One piece of ADDRESS `<-` that piece of the decode's address (R204, R205). -/
def State.writeAddressPiece (s : State) (p : Piece) : State :=
  { s with address := replaceAddressPiece p s.address s.swSetting.address }

/-- `IE_TMR <- 1` (R207, R219); no operation clears it. -/
def State.enableTmr (s : State) : State := { s with ieTmr := true }

/-- `IE_RX <- v` (R208, R220). -/
def State.setIeRx (s : State) (v : Bool) : State := { s with ieRx := v }

/-- One byte of TOSNAP `<-` that byte of TIMEOUT (R209, R210). -/
def State.snapTimeoutPiece (s : State) (p : Piece) : State :=
  { s with tosnap := replacePiece p s.tosnap s.timeout }

/-- One byte of TIMEOUT `<-` that byte of LOSS_THRESHOLD = 0x01E0 (R215, R216). -/
def State.clampTimeoutPiece (s : State) (p : Piece) : State :=
  { s with timeout := replacePiece p s.timeout (BitVec.ofNat 16 lossThreshold) }

/-- `DISP_R <- v` (R212, R223). -/
def State.setDispRed (s : State) (v : Byte) : State := { s with disp := { s.disp with r := v } }

/-- `DISP_G <- v` (R213, R224). -/
def State.setDispGreen (s : State) (v : Byte) : State := { s with disp := { s.disp with g := v } }

/-- `DISP_B <- v` (R214, R225). -/
def State.setDispBlue (s : State) (v : Byte) : State := { s with disp := { s.disp with b := v } }

/-- `LED <- v` (R217, R218, R221). -/
def State.setLed (s : State) (v : Bool) : State := { s with led := v }

/-- `FUNCOL <- c` (R222, R227 to R236). -/
def State.setFuncol (s : State) (c : Colour) : State := { s with funcol := c }

/-! The environment. -/

/-- The switch pins take the levels `w` and hold them until the next SW (R122). -/
def State.setPins (s : State) (w : BitVec 10) : State := { s with pins := w }

/-! Interrupts and reset. -/

/-- I1, the timing interrupt (R256): a TMR while `IE_TMR = 0` is not admitted and has no meaning (U8). The handler starts
in the state as it stands and its return restores nothing (R261, R262). -/
def timingInterrupt (s : State) (handler : State → Result) : Result :=
  if s.ieTmr then handler s else .refused .tmrNotAdmitted

/-- I2, the serial-receive interrupt (R257): a character while `IE_RX = 0` changes no state at all; it is lost. -/
def receiveInterrupt (s : State) (handler : State → Result) : Result :=
  if s.ieRx then handler s else .next s

/-- A state whose MC_STEP is 25 to 31 (R115, U2) or whose PHASE is not one-hot (R112, U1) has no successor and is refused (D30),
whatever the stimulus, but for POR, which may occur in any state (R290). A state with both is refused for its MC_STEP (log
entry 17). -/
def admitPosition (i : Instr) (s : State) (run : State → Result) : Result :=
  if s.positionsLegal ∨ i = .por then run s
  else if s.mcStepLegal then .refused (.phaseNotOneHot s.phase)
  else .refused (.mcStepReserved s.mcStep)

/-- Reset (R290, R291): every register takes the value of R43. What is not the hardware's stays: the pins (R292), the
stimuli still to come, the parameters (R42) and the count of `wdt_kick` pulses, a property of the run. -/
def State.hardReset (s : State) : State :=
  { State.reset with pins := s.pins, stim := s.stim, cfg := s.cfg, wdtKicks := s.wdtKicks }

end Sys2Proof.Machine
end

