-- ==== Sys2Proof/Machine/FunColours.lean ====
section
/-! DEFINITION. The ten rows of the Fun colour decode (R227 to R236). `x` is the part of ADDRESS that the row ignores; the
result goes to FUNCOL and nothing else is written. -/

namespace Sys2Proof.Machine

open Sys2Proof

/-- `FUN.RSVD8` (R227): reserved sub-mode, the placeholder. -/
def execFunRsvd8 (_x : BitVec 8) (s : State) : Result := .next (s.setFuncol placeholder)

/-- `FUN.RSVD7` (R228): reserved sub-mode, the placeholder. -/
def execFunRsvd7 (_x : BitVec 7) (s : State) : Result := .next (s.setFuncol placeholder)

/-- `FUN.RED` (R229). -/
def execFunRed (_x : BitVec 6) (s : State) : Result := .next (s.setFuncol ⟨255, 0, 0⟩)

/-- `FUN.GREEN` (R230). -/
def execFunGreen (_x : BitVec 5) (s : State) : Result := .next (s.setFuncol ⟨0, 255, 0⟩)

/-- `FUN.BLUE` (R231). -/
def execFunBlue (_x : BitVec 4) (s : State) : Result := .next (s.setFuncol ⟨0, 0, 255⟩)

/-- `FUN.YELLOW` (R232). -/
def execFunYellow (_x : BitVec 3) (s : State) : Result := .next (s.setFuncol ⟨255, 255, 0⟩)

/-- `FUN.MAGENTA` (R233). -/
def execFunMagenta (_x : BitVec 2) (s : State) : Result := .next (s.setFuncol ⟨255, 0, 255⟩)

/-- `FUN.CYAN` (R234). -/
def execFunCyan (_x : BitVec 1) (s : State) : Result := .next (s.setFuncol ⟨0, 255, 255⟩)

/-- `FUN.WHITE` (R235). -/
def execFunWhite (s : State) : Result := .next (s.setFuncol ⟨255, 255, 255⟩)

/-- `FUN.BLACK` (R236). -/
def execFunBlack (s : State) : Result := .next (s.setFuncol ⟨0, 0, 0⟩)

/-- The row that an address selects, by match and mask (R110), run on the state. -/
def funRow (a : BitVec 9) (s : State) : Result :=
  if a &&& 0x100 = 0x100 then execFunRsvd8 (a.extractLsb' 0 8) s
  else if a &&& 0x180 = 0x080 then execFunRsvd7 (a.extractLsb' 0 7) s
  else if a &&& 0x181 = 0x001 then execFunRed (a.extractLsb' 1 6) s
  else if a &&& 0x183 = 0x002 then execFunGreen (a.extractLsb' 2 5) s
  else if a &&& 0x187 = 0x004 then execFunBlue (a.extractLsb' 3 4) s
  else if a &&& 0x18F = 0x008 then execFunYellow (a.extractLsb' 4 3) s
  else if a &&& 0x19F = 0x010 then execFunMagenta (a.extractLsb' 5 2) s
  else if a &&& 0x1BF = 0x020 then execFunCyan (a.extractLsb' 6 1) s
  else if a = 0x040 then execFunWhite s
  else execFunBlack s

end Sys2Proof.Machine
end

