-- ==== Sys2Proof/Machine/Controller.lean ====
section
/-! DEFINITION. The mode controller: the switch decode (R237), the 25 micro-steps (R201 to R225), and the stimuli MSTEP (R200)
and POLL (R238). A two-step access moves the piece that MC_BYTE_ORDER gives its step (R71). -/

namespace Sys2Proof.Machine

open Sys2Proof

/-- `SW.DECODE` (R237): the combinational decode of a switch word; it writes no register of the spec (log entry 6). -/
def execSwDecode (swMode : Bool) (swAh : BitVec 8) (swA0 : Bool) (s : State) : Result :=
  .next (s.decodeSwitches (switchWord swMode swAh swA0))

/-- `MC.KICK` (R201). -/
def execMcKick (s : State) : Result := .next (s.kick.goto 1)

/-- `MC.RDSW` (R202). -/
def execMcRdsw (s : State) : Result := .next (s.sampleSwitches.goto 2)

/-- `MC.WRMODE` (R203). -/
def execMcWrmode (s : State) : Result := .next ((s.decodeSwitches s.swlatch).writeMode.goto 3)

/-- `MC.WRADDR0` (R204). -/
def execMcWraddr0 (s : State) : Result :=
  .next (((s.decodeSwitches s.swlatch).writeAddressPiece (firstPiece s.cfg.addressOrder)).goto 4)

/-- `MC.WRADDR1` (R205). -/
def execMcWraddr1 (s : State) : Result :=
  .next (((s.decodeSwitches s.swlatch).writeAddressPiece (secondPiece s.cfg.addressOrder)).goto 5)

/-- `MC.DISPATCH` (R206). -/
def execMcDispatch (s : State) : Result :=
  .next (s.goto (match s.mode with | .dmx => 6 | .funMode => 18))

/-- `MC.IETMR1` (R207). -/
def execMcIetmr1 (s : State) : Result := .next (s.enableTmr.goto 7)

/-- `MC.IERX1` (R208). -/
def execMcIerx1 (s : State) : Result := .next ((s.setIeRx true).goto 8)

/-- `MC.RDTO0` (R209). -/
def execMcRdto0 (s : State) : Result :=
  .next ((s.snapTimeoutPiece (firstPiece s.cfg.timeoutReadOrder)).goto 9)

/-- `MC.RDTO1` (R210). -/
def execMcRdto1 (s : State) : Result :=
  .next ((s.snapTimeoutPiece (secondPiece s.cfg.timeoutReadOrder)).goto 10)

/-- `MC.TEST` (R211). -/
def execMcTest (s : State) : Result := .next (s.goto (if signalLost s.tosnap then 11 else 17))

/-- `MC.BLKR` (R212). -/
def execMcBlkr (s : State) : Result := .next ((s.setDispRed 0).goto 12)

/-- `MC.BLKG` (R213). -/
def execMcBlkg (s : State) : Result := .next ((s.setDispGreen 0).goto 13)

/-- `MC.BLKB` (R214). -/
def execMcBlkb (s : State) : Result := .next ((s.setDispBlue 0).goto 14)

/-- `MC.CLAMP0` (R215). -/
def execMcClamp0 (s : State) : Result :=
  .next ((s.clampTimeoutPiece (firstPiece s.cfg.timeoutWriteOrder)).goto 15)

/-- `MC.CLAMP1` (R216). -/
def execMcClamp1 (s : State) : Result :=
  .next ((s.clampTimeoutPiece (secondPiece s.cfg.timeoutWriteOrder)).goto 16)

/-- `MC.LEDSLOW` (R217). -/
def execMcLedslow (s : State) : Result := .next ((s.setLed (slowBlink s.cfg s.tick)).goto 0)

/-- `MC.LEDFAST` (R218). -/
def execMcLedfast (s : State) : Result := .next ((s.setLed (fastBlink s.cfg s.tick)).goto 0)

/-- `MC.FIETMR1` (R219). -/
def execMcFietmr1 (s : State) : Result := .next (s.enableTmr.goto 19)

/-- `MC.IERX0` (R220). -/
def execMcIerx0 (s : State) : Result := .next ((s.setIeRx false).goto 20)

/-- `MC.LEDON` (R221). -/
def execMcLedon (s : State) : Result := .next ((s.setLed true).goto 21)

/-- `MC.FUNDEC` (R222): the row of the Fun colour decode that ADDRESS selects, then the successor. -/
def execMcFundec (s : State) : Result := andThen (funRow s.address s) (fun t => .next (t.goto 22))

/-- `MC.FUNR` (R223). -/
def execMcFunr (s : State) : Result := .next ((s.setDispRed s.funcol.r).goto 23)

/-- `MC.FUNG` (R224). -/
def execMcFung (s : State) : Result := .next ((s.setDispGreen s.funcol.g).goto 24)

/-- `MC.FUNB` (R225). -/
def execMcFunb (s : State) : Result := .next ((s.setDispBlue s.funcol.b).goto 0)

/-- One micro-step (R200): the row of R120 that MC_STEP selects; 25 to 31 select none (R115). -/
def microStep (s : State) : Result :=
  match s.mcStep.toNat with
  | 0 => execMcKick s
  | 1 => execMcRdsw s
  | 2 => execMcWrmode s
  | 3 => execMcWraddr0 s
  | 4 => execMcWraddr1 s
  | 5 => execMcDispatch s
  | 6 => execMcIetmr1 s
  | 7 => execMcIerx1 s
  | 8 => execMcRdto0 s
  | 9 => execMcRdto1 s
  | 10 => execMcTest s
  | 11 => execMcBlkr s
  | 12 => execMcBlkg s
  | 13 => execMcBlkb s
  | 14 => execMcClamp0 s
  | 15 => execMcClamp1 s
  | 16 => execMcLedslow s
  | 17 => execMcLedfast s
  | 18 => execMcFietmr1 s
  | 19 => execMcIerx0 s
  | 20 => execMcLedon s
  | 21 => execMcFundec s
  | 22 => execMcFunr s
  | 23 => execMcFung s
  | 24 => execMcFunb s
  | _ => .refused (.mcStepReserved s.mcStep)

/-- `MSTEP` (R122, R200): one micro-step of the mode controller. -/
def execMstep (s : State) : Result := microStep s

/-- Micro-steps until MC_STEP is 0 again, at most `fuel` of them. -/
def runPass : Nat → State → Result
  | 0, s => .next s
  | fuel + 1, s => andThen (microStep s) (fun t => if t.mcStep = 0 then .next t else runPass fuel t)

/-- `POLL` (R122, R238): the rest of the pass in progress, or a whole pass, with nothing in between. The longest pass has
17 micro-steps (R200), and there are 25, so the bound never ends a pass. -/
def execPoll (s : State) : Result := runPass 25 s

end Sys2Proof.Machine
end

