-- ==== Sys2Proof/Machine/Pwm.lean ====
section
/-! DEFINITION. The eight operations of the PWM engine (R132 to R139) and the TMR handler (R130). A row's meaning is what the
operation does when it runs; which row runs is the handler's choice by PHASE (log entry 7). -/

namespace Sys2Proof.Machine

open Sys2Proof

/-- `PWM.P7` (R132). -/
def execPwmP7 (s : State) : Result := .next ((s.renderSlice 7).toPhase 0x40)

/-- `PWM.P6` (R133). -/
def execPwmP6 (s : State) : Result := .next ((s.renderSlice 6).toPhase 0x20)

/-- `PWM.P5` (R134). -/
def execPwmP5 (s : State) : Result := .next ((s.renderSlice 5).toPhase 0x10)

/-- `PWM.P4` (R135). -/
def execPwmP4 (s : State) : Result := .next ((s.renderSlice 4).toPhase 0x08)

/-- `PWM.P3` (R136). -/
def execPwmP3 (s : State) : Result := .next ((s.renderSlice 3).toPhase 0x04)

/-- `PWM.P2` (R137). -/
def execPwmP2 (s : State) : Result := .next ((s.renderSlice 2).toPhase 0x02)

/-- `PWM.P1` (R138). -/
def execPwmP1 (s : State) : Result := .next ((s.renderSlice 1).toPhase 0x01)

/-- `PWM.P0` (R139): the slice that wraps the cycle and counts it. -/
def execPwmP0 (s : State) : Result := .next ((s.renderSlice 0).toPhase 0x80).countCycle

/-- The TMR handler (R130): the row of R101 that PHASE selects; a PHASE that is not one-hot selects none (R112). -/
def pwmHandler (s : State) : Result :=
  if s.phase = 0x80 then execPwmP7 s
  else if s.phase = 0x40 then execPwmP6 s
  else if s.phase = 0x20 then execPwmP5 s
  else if s.phase = 0x10 then execPwmP4 s
  else if s.phase = 0x08 then execPwmP3 s
  else if s.phase = 0x04 then execPwmP2 s
  else if s.phase = 0x02 then execPwmP1 s
  else if s.phase = 0x01 then execPwmP0 s
  else .refused (.phaseNotOneHot s.phase)

/-- `TMR` (R122, R256): one slice-timer expiry. -/
def execTmr (s : State) : Result := timingInterrupt s pwmHandler

end Sys2Proof.Machine
end

