-- ==== Sys2Proof/Machine/Receiver.lean ====
section
/-! DEFINITION. The three operations of the DMX512 receiver (R161 to R169) and the RXC handler (R160). -/

namespace Sys2Proof.Machine

open Sys2Proof

/-- `RX.BREAK` (R161): length test, commit, re-arm, each seeing the writes of the one before. -/
def execRxBreak (s : State) : Result := .next s.judgeLength.commitIfGood.rearm

/-- `RX.FERR` (R165): the frame is invalidated, the position still counted, the data ignored. -/
def execRxFerr (_d : Byte) (s : State) : Result := .next s.clearGood.advanceSlot

/-- `RX.DATA` (R166): start-code test, channel decoder, advance. -/
def execRxData (d : Byte) (s : State) : Result := .next ((s.testStartCode d).storeWindow d).advanceSlot

/-- The RXC handler (R160): one of the three operations, chosen by the character. -/
def rxHandler (f : Bool) (d : Byte) (s : State) : Result :=
  if f ∧ d = 0 then execRxBreak s
  else if f then execRxFerr d s
  else execRxData d s

/-- `RXC f, d` (R122, R257): one received character. -/
def execRxc (f : Bool) (d : Byte) (s : State) : Result := receiveInterrupt s (rxHandler f d)

end Sys2Proof.Machine
end

