-- ==== Sys2Proof/Machine/Stimuli.lean ====
section
/-! DEFINITION. The stimuli of the environment that start no handler: the switch pins (R122) and the two resets (R290, R291).
Then the notation of R125 and R126 for lists of stimulus words. -/

namespace Sys2Proof.Machine

open Sys2Proof

/-- `SW w` (R122). -/
def execSw (w : BitVec 10) (s : State) : Result := .next (s.setPins w)

/-- `WDTX` (R291): watchdog expiry; its effect is that of POR. When it may come is the environment's obligation (R239,
R268; log entry 8). -/
def execWdtx (s : State) : Result := .next s.hardReset

/-- `POR` (R290): power-on reset. -/
def execPor (s : State) : Result := .next s.hardReset

/-- `BRK` (R125). -/
def brkWord : StimWord := encode (.rxc true 0)

/-- `BYTE d` (R125). -/
def byteWord (d : Byte) : StimWord := encode (.rxc false d)

/-- `FERR d` (R125), for `d ≠ 0`. -/
def ferrWord (d : Byte) : StimWord := encode (.rxc true d)

/-- `FRAME sc; d1, ..., dn` (R126): a break, a start code and `n` slots. -/
def frameWords (sc : Byte) (slots : List Byte) : List StimWord :=
  brkWord :: byteWord sc :: slots.map byteWord

/-- `CYCLES n` (R126): TMR 8·n times; `CYCLE` is `CYCLES 1`. -/
def cyclesWords (n : Nat) : List StimWord := List.replicate (8 * n) (encode .tmr)

/-- `SWL mode, addr` (R126): the SW that selects a mode and an address. -/
def swlWord (c : Config) (m : Mode) (addr : BitVec 9) : StimWord :=
  let pin := match m with
    | .dmx => c.modePinDmx
    | .funMode => !c.modePinDmx
  encode (.sw (BitVec.ofBool pin ++ ~~~addr))

end Sys2Proof.Machine
end

