-- ==== Sys2Proof/Machine/Dispatch.lean ====
section
/-! DEFINITION. The meaning of every operation, one arm per constructor of Instr. -/

namespace Sys2Proof.Machine

open Sys2Proof

def exec (i : Instr) (s : State) : Host.Outcome State Fault Refusal :=
  match i with
  | .pwmP7 => Sys2Proof.Machine.execPwmP7 s
  | .pwmP6 => Sys2Proof.Machine.execPwmP6 s
  | .pwmP5 => Sys2Proof.Machine.execPwmP5 s
  | .pwmP4 => Sys2Proof.Machine.execPwmP4 s
  | .pwmP3 => Sys2Proof.Machine.execPwmP3 s
  | .pwmP2 => Sys2Proof.Machine.execPwmP2 s
  | .pwmP1 => Sys2Proof.Machine.execPwmP1 s
  | .pwmP0 => Sys2Proof.Machine.execPwmP0 s
  | .rxBreak => Sys2Proof.Machine.execRxBreak s
  | .rxFerr d => Sys2Proof.Machine.execRxFerr d s
  | .rxData d => Sys2Proof.Machine.execRxData d s
  | .mcKick => Sys2Proof.Machine.execMcKick s
  | .mcRdsw => Sys2Proof.Machine.execMcRdsw s
  | .mcWrmode => Sys2Proof.Machine.execMcWrmode s
  | .mcWraddr0 => Sys2Proof.Machine.execMcWraddr0 s
  | .mcWraddr1 => Sys2Proof.Machine.execMcWraddr1 s
  | .mcDispatch => Sys2Proof.Machine.execMcDispatch s
  | .mcIetmr1 => Sys2Proof.Machine.execMcIetmr1 s
  | .mcIerx1 => Sys2Proof.Machine.execMcIerx1 s
  | .mcRdto0 => Sys2Proof.Machine.execMcRdto0 s
  | .mcRdto1 => Sys2Proof.Machine.execMcRdto1 s
  | .mcTest => Sys2Proof.Machine.execMcTest s
  | .mcBlkr => Sys2Proof.Machine.execMcBlkr s
  | .mcBlkg => Sys2Proof.Machine.execMcBlkg s
  | .mcBlkb => Sys2Proof.Machine.execMcBlkb s
  | .mcClamp0 => Sys2Proof.Machine.execMcClamp0 s
  | .mcClamp1 => Sys2Proof.Machine.execMcClamp1 s
  | .mcLedslow => Sys2Proof.Machine.execMcLedslow s
  | .mcLedfast => Sys2Proof.Machine.execMcLedfast s
  | .mcFietmr1 => Sys2Proof.Machine.execMcFietmr1 s
  | .mcIerx0 => Sys2Proof.Machine.execMcIerx0 s
  | .mcLedon => Sys2Proof.Machine.execMcLedon s
  | .mcFundec => Sys2Proof.Machine.execMcFundec s
  | .mcFunr => Sys2Proof.Machine.execMcFunr s
  | .mcFung => Sys2Proof.Machine.execMcFung s
  | .mcFunb => Sys2Proof.Machine.execMcFunb s
  | .funRsvd8 x => Sys2Proof.Machine.execFunRsvd8 x s
  | .funRsvd7 x => Sys2Proof.Machine.execFunRsvd7 x s
  | .funRed x => Sys2Proof.Machine.execFunRed x s
  | .funGreen x => Sys2Proof.Machine.execFunGreen x s
  | .funBlue x => Sys2Proof.Machine.execFunBlue x s
  | .funYellow x => Sys2Proof.Machine.execFunYellow x s
  | .funMagenta x => Sys2Proof.Machine.execFunMagenta x s
  | .funCyan x => Sys2Proof.Machine.execFunCyan x s
  | .funWhite => Sys2Proof.Machine.execFunWhite s
  | .funBlack => Sys2Proof.Machine.execFunBlack s
  | .swDecode swMode swAh swA0 => Sys2Proof.Machine.execSwDecode swMode swAh swA0 s
  | .tmr => Sys2Proof.Machine.execTmr s
  | .rxc f d => Sys2Proof.Machine.execRxc f d s
  | .poll => Sys2Proof.Machine.execPoll s
  | .mstep => Sys2Proof.Machine.execMstep s
  | .sw w => Sys2Proof.Machine.execSw w s
  | .wdtx => Sys2Proof.Machine.execWdtx s
  | .por => Sys2Proof.Machine.execPor s

end Sys2Proof.Machine
end

