-- ==== Sys2Proof/Machine/Fetch.lean ====
section
/-! DEFINITION. Where a step finds its stimulus, and how an operation is placed so that the next step runs it. -/

namespace Sys2Proof.Machine

open Sys2Proof

/-- The first stimulus word of the list, and the state with that word consumed (R121). -/
def fetchStimulus (s : State) : Option (StimWord × State) :=
  match s.stim with
  | [] => none
  | w :: rest => some (w, { s with stim := rest })

/-- A stimulus word placed where the next step fetches, before those already waiting. -/
def State.placeStimulus (s : State) (w : StimWord) : State := { s with stim := w :: s.stim }

/-- The state with each sequencer position as it is where it is legal, and at its reset value where it is not: a step refuses a
state with another one (R112, R115), so a placed operation needs this (log entry 1). -/
def State.settlePositions (s : State) : State :=
  { s with
    phase := if s.phaseOneHot then s.phase else 0x80
    mcStep := if s.mcStepLegal then s.mcStep else 0 }

/-- The state in which the operation `i` is the one that the next step runs: the stimulus that starts its agent placed in
the list, and the position, input or enable that selects it (R90, R91) set. A stimulus is itself placed in the list;
TMR is admitted only while IE_TMR = 1 (R256), so that enable is set with it; no state at an illegal position takes a step,
so that the positions are settled first (log entry 1). -/
def State.placeInstr (s : State) (i : Instr) : State :=
  match i.site with
  | .phase => { s.settlePositions with phase := (encode i).setWidth 8, ieTmr := true }.placeStimulus (encode .tmr)
  | .rxc => { s.settlePositions with ieRx := true }.placeStimulus (0x2000 ||| encode i)
  | .mcs => { s.settlePositions with mcStep := (encode i).setWidth 5 }.placeStimulus (encode .mstep)
  | .fun9 =>
    { s.settlePositions with address := (encode i).setWidth 9, mcStep := 21 }.placeStimulus (encode .mstep)
  | .sww =>
    { s.settlePositions with swlatch := (encode i).setWidth 10, mcStep := 2 }.placeStimulus (encode .mstep)
  | .evt =>
    match i with
    | .tmr => { s.settlePositions with ieTmr := true }.placeStimulus (encode .tmr)
    | _ => s.settlePositions.placeStimulus (encode i)

/-- The table's word `w` of `nbits` bits placed as the operation it decodes to. A word that decodes to none is placed so
that the next step rejects it: itself, if it is a stimulus word, and the reserved word 0 otherwise. -/
def State.placeTableWord (s : State) (nbits w : Nat) : State :=
  match decodeTableWord nbits w with
  | some i => s.placeInstr i
  | none => s.placeStimulus (if nbits = 16 ∧ w < 2 ^ 16 then BitVec.ofNat 16 w else 0)

end Sys2Proof.Machine
end

