-- ==== Sys2Proof/Machine/Step.lean ====
section
/-! DEFINITION. One step of a run (R77, R121): the next stimulus is consumed, decoded and executed. -/

namespace Sys2Proof.Machine

open Sys2Proof

/-- One step: the first stimulus word of the list is consumed and its operation runs on the rest, unless the state holds a PHASE
that is not one-hot (R112) or a reserved MC_STEP (R115). -/
def step (s : State) : Host.Outcome State Fault Refusal :=
  match fetchStimulus s with
  | none => .fault .noStimulus
  | some (w, t) =>
    match decodeStimulus w with
    | .ok i => admitPosition i t (exec i)
    | .error _ => .refused (.reservedStimulus w)

/-- `s` with the table's word `w` of `nbits` bits placed so that the next step runs it. -/
def State.withFetchWord (s : State) (nbits w : Nat) : State := s.placeTableWord nbits w

end Sys2Proof.Machine
end

