-- ==== Sys2Proof/Machine/Conditions.lean ====
section
/-! DEFINITION. The error conditions (R250). A `detect X<n>` of the spec names a condition and has no effect of its own (R12):
every effect is a register write of the same rule. So they are an observation of an operation and its state, not part of
either. -/

namespace Sys2Proof.Machine

open Sys2Proof

/-- The conditions of R250. -/
inductive Condition where
  /-- X1, transmission or framing error (R165). -/
  | x1
  /-- X2, start-code violation (R167). -/
  | x2
  /-- X3, frame-length instability (R162). -/
  | x3
  /-- X4, signal loss (R211). -/
  | x4
  /-- X5, watchdog timeout (R268, R291). -/
  | x5
deriving DecidableEq, Repr

/-- What a row detects in a state (R250, R260): each at most one condition. -/
def rowDetects : Instr → State → Option Condition
  | .rxBreak, s => if lengthChanged s.slot s.lastlen then some .x3 else none
  | .rxFerr _, _ => some .x1
  | .rxData d, s => if badStartCode s.slot d then some .x2 else none
  | .mcTest, s => if signalLost s.tosnap then some .x4 else none
  | .wdtx, _ => some .x5
  | _, _ => none

/-- What a micro-step detects: that of the row MC_STEP selects. -/
def stepDetects (s : State) : Option Condition :=
  match decodeMcs s.mcStep with
  | .ok i => rowDetects i s
  | .error _ => none

/-- What the micro-steps of a pass detect, at most `fuel` of them. -/
def passDetects : Nat → State → Option Condition
  | 0, _ => none
  | fuel + 1, s =>
    match stepDetects s, microStep s with
    | some c, _ => some c
    | none, .next t => if t.mcStep = 0 then none else passDetects fuel t
    | none, .fault _ => none
    | none, .refused _ => none

/-- What an operation or stimulus detects in a state; a character that is dropped detects nothing (R257). -/
def detects (i : Instr) (s : State) : Option Condition :=
  match i with
  | .rxc f d => if s.ieRx then rowDetects (decodeRxc (charWord f d)) s else none
  | .mstep => stepDetects s
  | .poll => passDetects 25 s
  | _ => rowDetects i s

end Sys2Proof.Machine
end

