-- ==== Sys2Proof/Machine/Line.lean ====
section
/-! DEFINITION. The line-level receiver (R180, R181), given in the spec for reference and read by no other rule. The serial
line is the environment's (R40), so this is a function from line samples to characters, not part of State. One sample a bit
time, at the bit's centre; `true` is the line high (mark). The spec takes the character format from general knowledge (log
entry 9). -/

namespace Sys2Proof.Machine

open Sys2Proof

/-- Where the receiver stands within a character. -/
inductive LinePhase where
  /-- Looking for a start bit. -/
  | hunt
  /-- `n` data bits have been shifted in. -/
  | data (n : Nat) (acc : Byte)
  /-- At the first stop bit. -/
  | stop1 (d : Byte)
  /-- At the second stop bit, with the flag the first one gave. -/
  | stop2 (d : Byte) (f : Bool)
  /-- After a character with `f = 1`: waiting for the line to return high. -/
  | waitHigh
deriving DecidableEq, Repr

/-- One sample: where the receiver stands next, and the character it delivers, if any (R180). -/
def lineSample (check : StopCheck) (p : LinePhase) (b : Bool) : LinePhase × Option (Bool × Byte) :=
  match p with
  | .hunt => (if b then .hunt else .data 0 0, none)
  | .data n acc =>
    let d : Byte := BitVec.ofBool b ++ acc.extractLsb' 1 7
    (if n = 7 then .stop1 d else .data (n + 1) d, none)
  | .stop1 d => (.stop2 d (!b), none)
  | .stop2 d f =>
    let g := f || (check == .both && !b)
    (if g && !b then .waitHigh else .hunt, some (g, d))
  | .waitHigh => (if b then .hunt else .waitHigh, none)

/-- The characters that a line waveform delivers, `{f, d}` each. -/
def lineCharacters (check : StopCheck) : LinePhase → List Bool → List (Bool × Byte)
  | _, [] => []
  | p, b :: rest =>
    match lineSample check p b with
    | (q, none) => lineCharacters check q rest
    | (q, some c) => c :: lineCharacters check q rest

/-- The samples of one character: a low start bit, eight data bits least significant first, two stop bits (R180). -/
def characterSamples (d : Byte) (stopA stopB : Bool) : List Bool :=
  [false, d.getLsbD 0, d.getLsbD 1, d.getLsbD 2, d.getLsbD 3, d.getLsbD 4, d.getLsbD 5, d.getLsbD 6, d.getLsbD 7,
    stopA, stopB]

end Sys2Proof.Machine
end

