-- ==== Sys2Proof/Machine/Run.lean ====
section
/-! DEFINITION. Sequences of operations on one state, and the output trace of the PWM engine (R141). -/

namespace Sys2Proof.Machine

open Sys2Proof

/-- Operations one after the other (R77), stopping at the first that does not answer a next state. -/
def execAll : List Instr → State → Result
  | [], s => .next s
  | i :: rest, s => andThen (exec i s) (execAll rest)

/-- A segment of the output trace (R141): the levels put on the outputs and for how many units they are held. -/
structure Segment where
  out : Lines
  load : Byte
deriving DecidableEq, Repr

/-- The segments of `n` TMR steps (R141). -/
def segments : Nat → State → List Segment
  | 0, _ => []
  | n + 1, s =>
    match exec .tmr s with
    | .next t => ⟨t.out, t.tmrLoad⟩ :: segments n t
    | .fault _ => []
    | .refused _ => []

/-- How long a list of segments lasts, in units of T_UNIT (R140). -/
def totalUnits : List Segment → Nat
  | [] => 0
  | g :: rest => g.load.toNat + totalUnits rest

/-- For how many of those units the red line is ON. -/
def redUnits : List Segment → Nat
  | [] => 0
  | g :: rest => (if g.out.r then g.load.toNat else 0) + redUnits rest

/-- For how many of those units the green line is ON. -/
def greenUnits : List Segment → Nat
  | [] => 0
  | g :: rest => (if g.out.g then g.load.toNat else 0) + greenUnits rest

/-- For how many of those units the blue line is ON. -/
def blueUnits : List Segment → Nat
  | [] => 0
  | g :: rest => (if g.out.b then g.load.toNat else 0) + blueUnits rest

/-- The characters `cs` received one after the other. -/
def characters (cs : List (Bool × Byte)) : List Instr := cs.map (fun c => .rxc c.1 c.2)

/-- The stimuli that a line waveform amounts to at this implementation's STOP_CHECK (R180). The receiver is taken to look for
a start bit at the waveform's first sample; R180 does not say where it stands there, and a waveform that begins low is
read as beginning with a start bit (DESIGN CHOICE, unsafe for such a waveform: log entry 9). -/
def lineStimuli (s : State) (samples : List Bool) : List Instr :=
  characters (lineCharacters s.cfg.stopCheck .hunt samples)

/-- A frame is free of breaks if none of its characters is one (R171). -/
def noBreak (cs : List (Bool × Byte)) : Bool := cs.all (fun c => !(c.1 && c.2 == 0))

/-- Conditions (i) and (ii) of R171: no RX.FERR, and the first character is a data byte 0. -/
def validFrame : List (Bool × Byte) → Bool
  | [] => true
  | c :: rest => c.2 == 0 && !c.1 && rest.all (fun x => !x.1)

/-- The data byte at a position of a frame, 0 where the frame does not reach it (R68). -/
def slotByte (cs : List (Bool × Byte)) (n : Nat) : Byte := ((cs[n]?).map Prod.snd).getD 0

/-- The bytes at the three positions of the window (R63, R66). -/
def windowColour (address : BitVec 9) (cs : List (Bool × Byte)) : Colour :=
  ⟨slotByte cs (windowPos address 0), slotByte cs (windowPos address 1), slotByte cs (windowPos address 2)⟩

end Sys2Proof.Machine
end

