-- ==== Sys2Proof/Safety.lean ====
section
/-! DEFINITION. What a safe state and an admissible stimulus are, in the terms the statements use. -/

namespace Sys2Proof.Machine

open Sys2Proof

/-- What the pass in progress has already settled, by its position (R200 to R225): the mode and address are those of the
switch word it sampled, the branch taken is that mode's, the enables are that branch's, the loss verdict is that of the
snapshot, and in Fun mode the indicator, the colour and the display bytes written so far are those of the address. -/
abbrev State.passConsistent (s : State) : Prop :=
  (s.ieRx = true → s.ieTmr = true) ∧
  (3 ≤ s.mcStep.toNat → s.mode = (switchDecode s.cfg s.swlatch).mode) ∧
  (5 ≤ s.mcStep.toNat → s.address = (switchDecode s.cfg s.swlatch).address) ∧
  (s.mcStep.toNat = 4 →
    s.address =
      replaceAddressPiece (firstPiece s.cfg.addressOrder) s.address (switchDecode s.cfg s.swlatch).address) ∧
  (6 ≤ s.mcStep.toNat ∧ s.mcStep.toNat ≤ 17 → s.mode = .dmx) ∧
  (7 ≤ s.mcStep.toNat ∧ s.mcStep.toNat ≤ 17 → s.ieTmr = true) ∧
  (8 ≤ s.mcStep.toNat ∧ s.mcStep.toNat ≤ 17 → s.ieRx = true) ∧
  (11 ≤ s.mcStep.toNat ∧ s.mcStep.toNat ≤ 16 → signalLost s.tosnap = true) ∧
  (s.mcStep.toNat = 17 → signalLost s.tosnap = false) ∧
  (18 ≤ s.mcStep.toNat → s.mode = .funMode) ∧
  (19 ≤ s.mcStep.toNat → s.ieTmr = true) ∧
  (20 ≤ s.mcStep.toNat → s.ieRx = false) ∧
  (21 ≤ s.mcStep.toNat → s.led = true) ∧
  (22 ≤ s.mcStep.toNat → s.funcol = funColour s.address) ∧
  (23 ≤ s.mcStep.toNat → s.disp.r = s.funcol.r) ∧
  (24 ≤ s.mcStep.toNat → s.disp.g = s.funcol.g)

/-- A stimulus that may come in a state (R122, R256): its word is of one of the seven classes, and a TMR only while
IE_TMR = 1. -/
def admissible (s : State) (w : StimWord) : Prop :=
  (∃ i, decodeStimulus w = .ok i) ∧ (decodeStimulus w = .ok .tmr → s.ieTmr = true)

/-- From `s` to `t` nothing changed but what R41 lets the PWM engine write. -/
def pwmWritesOnly (s t : State) : Prop :=
  { t with phase := s.phase, tick := s.tick, timeout := s.timeout, out := s.out, tmrLoad := s.tmrLoad } = s

/-- From `s` to `t` nothing changed but what R41 lets the receiver write. -/
def rxWritesOnly (s t : State) : Prop :=
  { t with
    stg := s.stg, slot := s.slot, lastlen := s.lastlen, good := s.good, disp := s.disp, timeout := s.timeout } = s

/-- From `s` to `t` nothing changed but what R41 lets the mode controller write, and the model's own count of pulses and decode
outputs (log entries 5 and 6). -/
def mcWritesOnly (s t : State) : Prop :=
  { t with
    disp := s.disp, timeout := s.timeout, address := s.address, mode := s.mode, ieTmr := s.ieTmr, ieRx := s.ieRx
    led := s.led, mcStep := s.mcStep, swlatch := s.swlatch, tosnap := s.tosnap, funcol := s.funcol
    wdtKicks := s.wdtKicks, swSetting := s.swSetting } = s

/-- The two stimuli that reset the machine (R263). -/
def isReset : Instr → Bool
  | .wdtx => true
  | .por => true
  | _ => false

end Sys2Proof.Machine
end

