-- ==== Sys2Proof/Certificates/Slice0/Obligations.lean ====
section
/-! DEFINITION. The statements for the provers. An equation `exec i s = .next { s with … }` says the result, the frame (every
field not named is unchanged) and that the operation completes. There is no addressable memory (R60). -/

open Sys2Proof Sys2Proof.Machine

/-! ## Encoding -/

/-- Decoding the word of a well-formed operation at its own site gives it back, with every operand (formats RXC, PHASE,
SWW, FUN, MCS and EVT). -/
def Obligations.DecodeOfEncodeIsTheOperation : Prop :=
  ∀ i : Instr, i.wf = true → decode i.site (encode i) = .ok i

/-- No two words of a site decode to one operation, and what decodes is well-formed and of that site. -/
def Obligations.EncodeOfDecodeIsTheWord : Prop :=
  ∀ (site : Site) (w : StimWord) (i : Instr), decode site w = .ok i →
    i.site = site ∧ i.wf = true ∧ encode i = w

/-- Words written out from the tables of R93, R101, R106, R110, R120 and R122 decode to their rows. -/
def Obligations.WrittenWordsDecodeToTheirRows : Prop :=
  decode .phase 0b10000000 = .ok .pwmP7 ∧ decode .phase 0b00000001 = .ok .pwmP0 ∧
  decode .rxc 0b100000000 = .ok .rxBreak ∧ decode .rxc 0b101010101 = .ok (.rxFerr 0x55) ∧
  decode .rxc 0b000010100 = .ok (.rxData 20) ∧ decode .mcs 0b01010 = .ok .mcTest ∧
  decode .fun9 0b001000000 = .ok .funWhite ∧ decode .fun9 0b000000110 = .ok (.funGreen 1) ∧
  decode .sww 0b1111111110 = .ok (.swDecode true 0xFF false) ∧
  decode .evt 0b0100001111111110 = .ok (.sw 0x3FE)

/-- R93: every received character selects exactly one operation, RX.BREAK tested first. -/
def Obligations.EveryCharacterSelectsOneOperation : Prop :=
  ∀ (f : Bool) (d : Byte),
    decodeRxc (charWord f d) = if f = true ∧ d = 0 then .rxBreak else if f = true then .rxFerr d else .rxData d

/-- The seven stimulus classes of R122 by their words, and the rejection of every other word. -/
def Obligations.StimulusDecoderTakesTheSevenClassesOnly : Prop :=
  (∀ w, decodeStimulus w = .ok .tmr ↔ w = 0x1000) ∧
  (∀ w f d, decodeStimulus w = .ok (.rxc f d) ↔ w.toNat = 0x2000 + 256 * f.toNat + d.toNat) ∧
  (∀ w, decodeStimulus w = .ok .poll ↔ w = 0x3000) ∧
  (∀ w, decodeStimulus w = .ok .mstep ↔ w = 0x3400) ∧
  (∀ w v, decodeStimulus w = .ok (.sw v) ↔ w.toNat = 0x4000 + v.toNat) ∧
  (∀ w, decodeStimulus w = .ok .wdtx ↔ w = 0x5000) ∧
  (∀ w, decodeStimulus w = .ok .por ↔ w = 0xF000) ∧
  (∀ w, w ≠ 0x1000 → w.toNat / 512 ≠ 16 → w ≠ 0x3000 → w ≠ 0x3400 → w.toNat / 1024 ≠ 16 → w ≠ 0x5000 →
    w ≠ 0xF000 → decodeStimulus w = .error (.reservedStimulus w))

/-- R126: SWL gives an SW whose word the switch decode reads as that mode and address; FRAME gives a break, a start code and
its slots. -/
def Obligations.NotationExpandsToItsStimuli : Prop :=
  (∀ (c : Config) (m : Mode) (a : BitVec 9), ∃ w,
    decodeStimulus (swlWord c m a) = .ok (.sw w) ∧ switchDecode c w = ⟨m, a⟩) ∧
  (∀ (sc : Byte) (slots : List Byte),
    (frameWords sc slots).map (fun w => accepted (decodeStimulus w)) =
      some (.rxc true 0) :: some (.rxc false sc) :: slots.map (fun d => some (.rxc false d)))

/-! ## Steps -/

/-- A step consumes the first stimulus word and runs the operation it decodes to on the rest (the model's own reading of
R121: the stimulus list is part of State, log entry 1); a state whose PHASE is not one-hot (R112, D30) or whose MC_STEP is
reserved (R115) is refused on every stimulus but POR, which may occur in any state (R290). That a state with both is refused for
its MC_STEP, and the refusals' names, are the model's choice (log entry 17). -/
def Obligations.StepRunsTheDecodedStimulus : Prop :=
  ∀ (s : State) (w : StimWord) (rest : List StimWord) (i : Instr),
    s.stim = w :: rest → decodeStimulus w = .ok i →
      step s =
        if s.positionsLegal ∨ i = .por then exec i { s with stim := rest }
        else if s.mcStepLegal then .refused (.phaseNotOneHot s.phase)
        else .refused (.mcStepReserved s.mcStep)

/-- A step stops on a reserved word by name, and where the list has ended. -/
def Obligations.StepStopsOnReservedWordsAndAtTheEnd : Prop :=
  (∀ (s : State) (w : StimWord) (rest : List StimWord),
    s.stim = w :: rest → (∀ i, decodeStimulus w ≠ .ok i) → step s = .refused (.reservedStimulus w)) ∧
  (∀ s : State, s.stim = [] → step s = .fault .noStimulus)

/-- Placing an operation makes the very next step run it, in a state whose PHASE and MC_STEP are first settled to their
reset values where they are illegal (log entries 1 and 3): a slice, a character operation or a
micro-step alone, a Fun row inside MC.FUNDEC, the switch decode inside MC.WRMODE, a stimulus as itself. -/
def Obligations.PlacedOperationRunsNext : Prop :=
  ∀ (s : State) (i : Instr),
    (s.positionsLegal → s.settlePositions = s) ∧ s.settlePositions.positionsLegal ∧
    { s.settlePositions with phase := s.phase, mcStep := s.mcStep } = s ∧
    (i.site = .phase → step (s.placeInstr i) = exec i { s.settlePositions with phase := (encode i).setWidth 8, ieTmr := true }) ∧
    (i.site = .rxc → i.wf = true → step (s.placeInstr i) = exec i { s.settlePositions with ieRx := true }) ∧
    (i.site = .mcs → step (s.placeInstr i) = exec i { s.settlePositions with mcStep := (encode i).setWidth 5 }) ∧
    (i.site = .fun9 → ∃ t, exec i { s.settlePositions with address := (encode i).setWidth 9, mcStep := 21 } = .next t ∧
      step (s.placeInstr i) = .next { t with mcStep := 22 }) ∧
    (i.site = .sww → ∃ t, exec i { s.settlePositions with swlatch := (encode i).setWidth 10, mcStep := 2 } = .next t ∧
      step (s.placeInstr i) = .next { t with mode := t.swSetting.mode, mcStep := 3 }) ∧
    (i.site = .evt → i ≠ .tmr → step (s.placeInstr i) = exec i s.settlePositions) ∧
    (i = .tmr → step (s.placeInstr i) = exec i { s.settlePositions with ieTmr := true })

/-! ## The PWM engine -/

/-- R132 to R138: the seven slices that do not wrap, each at its own PHASE; no slice detects a condition. -/
def Obligations.SlicesRenderTheirBit : Prop :=
  (∀ (i : Instr) (s : State), i.site = .phase → detects i s = none) ∧
  ∀ s : State,
    exec .pwmP7 s = .next { s with
      out := ⟨s.disp.r.getLsbD 7, s.disp.g.getLsbD 7, s.disp.b.getLsbD 7⟩, tmrLoad := 128, phase := 0x40 } ∧
    exec .pwmP6 s = .next { s with
      out := ⟨s.disp.r.getLsbD 6, s.disp.g.getLsbD 6, s.disp.b.getLsbD 6⟩, tmrLoad := 64, phase := 0x20 } ∧
    exec .pwmP5 s = .next { s with
      out := ⟨s.disp.r.getLsbD 5, s.disp.g.getLsbD 5, s.disp.b.getLsbD 5⟩, tmrLoad := 32, phase := 0x10 } ∧
    exec .pwmP4 s = .next { s with
      out := ⟨s.disp.r.getLsbD 4, s.disp.g.getLsbD 4, s.disp.b.getLsbD 4⟩, tmrLoad := 16, phase := 0x08 } ∧
    exec .pwmP3 s = .next { s with
      out := ⟨s.disp.r.getLsbD 3, s.disp.g.getLsbD 3, s.disp.b.getLsbD 3⟩, tmrLoad := 8, phase := 0x04 } ∧
    exec .pwmP2 s = .next { s with
      out := ⟨s.disp.r.getLsbD 2, s.disp.g.getLsbD 2, s.disp.b.getLsbD 2⟩, tmrLoad := 4, phase := 0x02 } ∧
    exec .pwmP1 s = .next { s with
      out := ⟨s.disp.r.getLsbD 1, s.disp.g.getLsbD 1, s.disp.b.getLsbD 1⟩, tmrLoad := 2, phase := 0x01 } ∧
    decodePhase 0x80 = .ok .pwmP7 ∧ decodePhase 0x40 = .ok .pwmP6 ∧ decodePhase 0x20 = .ok .pwmP5 ∧
    decodePhase 0x10 = .ok .pwmP4 ∧ decodePhase 0x08 = .ok .pwmP3 ∧ decodePhase 0x04 = .ok .pwmP2 ∧
    decodePhase 0x02 = .ok .pwmP1

/-- R139: the slice of bit 0 wraps the cycle and advances both counters modulo 2^16. No other row writes TICK, and no
other row of the PWM engine writes TIMEOUT. -/
def Obligations.LastSliceCountsTheCycle : Prop :=
  decodePhase 0x01 = .ok .pwmP0 ∧
  (∀ s : State, detects .pwmP0 s = none) ∧
  (∀ s : State, exec .pwmP0 s = .next { s with
    out := ⟨s.disp.r.getLsbD 0, s.disp.g.getLsbD 0, s.disp.b.getLsbD 0⟩, tmrLoad := 1, phase := 0x80,
    tick := BitVec.ofNat 16 ((s.tick.toNat + 1) % 2 ^ 16),
    timeout := BitVec.ofNat 16 ((s.timeout.toNat + 1) % 2 ^ 16) }) ∧
  (∀ (i : Instr) (s t : State), i.site ≠ .evt → i ≠ .pwmP0 → exec i s = .next t → t.tick = s.tick) ∧
  (∀ (i : Instr) (s t : State), i.site = .phase → i ≠ .pwmP0 → exec i s = .next t → t.timeout = s.timeout)

/-- R130: the TMR handler, at every one-hot PHASE; it is taken only while the interrupt is enabled. -/
def Obligations.TimerHandlerRendersAndAdvances : Prop :=
  (∀ s : State, s.ieTmr = false → ∀ t, exec .tmr s ≠ .next t) ∧
  (∀ s : State, detects .tmr s = none) ∧
  ∀ s : State, s.ieTmr = true → s.phaseOneHot →
    exec .tmr s = .next { s with
      out := ⟨(s.disp.r &&& s.phase) != 0, (s.disp.g &&& s.phase) != 0, (s.disp.b &&& s.phase) != 0⟩
      tmrLoad := s.phase
      phase := if s.phase = 0x01 then 0x80 else s.phase >>> 1
      tick := if s.phase = 0x01 then s.tick + 1 else s.tick
      timeout := if s.phase = 0x01 then s.timeout + 1 else s.timeout }

/-- R112, R256 (U1, U8): a TMR that is not admitted, or that finds PHASE not one-hot, is given no step. The names of the two
refusals, and that a TMR which is both is refused as not admitted, are the model's choice (DESIGN CHOICE, log entry 17). -/
def Obligations.TimerIsRefusedWhereItHasNoMeaning : Prop :=
  (∀ s : State, s.ieTmr = false → exec .tmr s = .refused .tmrNotAdmitted) ∧
  (∀ s : State, s.ieTmr = true → ¬ s.phaseOneHot → exec .tmr s = .refused (.phaseNotOneHot s.phase))

/-- R140: over one cycle each line is ON for exactly its intensity, of 255 units (in units: decision D25). -/
def Obligations.DutyOverACycleIsExact : Prop :=
  ∀ s : State, s.ieTmr = true → s.phase = 0x80 →
    (segments 8 s).map Segment.load = [128, 64, 32, 16, 8, 4, 2, 1] ∧
    totalUnits (segments 8 s) = 255 ∧
    redUnits (segments 8 s) = s.disp.r.toNat ∧
    greenUnits (segments 8 s) = s.disp.g.toNat ∧
    blueUnits (segments 8 s) = s.disp.b.toNat

/-- A whole cycle counts once in TICK and TIMEOUT and changes nothing but the outputs besides. -/
def Obligations.CycleCountsOnce : Prop :=
  ∀ s : State, s.ieTmr = true → s.phase = 0x80 →
    execAll (List.replicate 8 .tmr) s = .next { s with
      out := ⟨s.disp.r.getLsbD 0, s.disp.g.getLsbD 0, s.disp.b.getLsbD 0⟩, tmrLoad := 1,
      tick := s.tick + 1, timeout := s.timeout + 1 }

/-- TICK moves at no stimulus but the TMR that finds PHASE at its last value, and then by one (or at a reset). -/
def Obligations.TickMovesOnlyAtTheWrap : Prop :=
  ∀ (i : Instr) (s t : State), i.site = .evt → exec i s = .next t → t.tick ≠ s.tick →
    isReset i = true ∨ (i = .tmr ∧ s.ieTmr = true ∧ s.phase = 0x01 ∧ t.tick = s.tick + 1)

/-! ## The receiver -/

/-- R161: length test, commit, re-arm; X3 where the count differs. -/
def Obligations.BreakJudgesCommitsAndRearms : Prop :=
  decodeRxc (charWord true 0) = .rxBreak ∧
  (∀ s : State, detects .rxBreak s = if s.slot = s.lastlen then none else some .x3) ∧
  ∀ s : State, exec .rxBreak s = .next { s with
    lastlen := if s.slot = s.lastlen then s.lastlen else s.slot
    disp := if s.slot = s.lastlen ∧ s.good = true then s.stg else s.disp
    timeout := if s.slot = s.lastlen ∧ s.good = true then 0 else s.timeout
    stg := ⟨0, 0, 0⟩
    good := true
    slot := 0 }

/-- R165: a mis-framed character invalidates the frame (X1) and counts. -/
def Obligations.MisframedCharacterInvalidatesAndCounts : Prop :=
  ∀ (d : Byte) (s : State),
    (d ≠ 0 → decodeRxc (charWord true d) = .rxFerr d) ∧ detects (.rxFerr d) s = some .x1 ∧
    exec (.rxFerr d) s = .next { s with good := false, slot := BitVec.ofNat 16 ((s.slot.toNat + 1) % 2 ^ 16) }

/-- R166: start-code test (X2), channel decoder on unreduced positions, advance. -/
def Obligations.DataByteIsTestedStoredAndCounted : Prop :=
  ∀ (d : Byte) (s : State),
    decodeRxc (charWord false d) = .rxData d ∧
    (detects (.rxData d) s = if s.slot = 0 ∧ d ≠ 0 then some .x2 else none) ∧
    exec (.rxData d) s = .next { s with
      good := if s.slot = 0 ∧ d ≠ 0 then false else s.good
      stg :=
        if s.slot.toNat = s.address.toNat then ⟨d, s.stg.g, s.stg.b⟩
        else if s.slot.toNat = s.address.toNat + 1 then ⟨s.stg.r, d, s.stg.b⟩
        else if s.slot.toNat = s.address.toNat + 2 then ⟨s.stg.r, s.stg.g, d⟩
        else s.stg
      slot := BitVec.ofNat 16 ((s.slot.toNat + 1) % 2 ^ 16) }

/-- R160: while IE_RX = 1 a character performs exactly one of the three operations; otherwise it is lost and nothing
changes (R257). -/
def Obligations.CharacterRunsOneOperationOrIsLost : Prop :=
  ∀ (f : Bool) (d : Byte) (s : State),
    (s.ieRx = true → ∃ t, exec (.rxc f d) s = .next t ∧
      exec (if f = true ∧ d = 0 then .rxBreak else if f = true then .rxFerr d else .rxData d) s = .next t) ∧
    (s.ieRx = false → exec (.rxc f d) s = .next s)

/-- R171: what a whole frame and its closing break do. From the state a break leaves, a frame without breaks in it is
committed exactly if it has no mis-framed character, its first character is a data byte 0 and its length is LASTLEN;
then the window's bytes are displayed, 0 where the frame does not reach (R68), and TIMEOUT is cleared. -/
def Obligations.FrameCommitsExactlyIfValidAndStable : Prop :=
  ∀ (s : State) (cs : List (Bool × Byte)),
    s.ieRx = true → s.slot = 0 → s.good = true → s.stg = Colour.black → cs.length < 2 ^ 16 → noBreak cs = true →
    execAll (characters cs ++ [.rxc true 0]) s = .next { s with
      disp := if validFrame cs = true ∧ cs.length = s.lastlen.toNat then windowColour s.address cs else s.disp
      timeout := if validFrame cs = true ∧ cs.length = s.lastlen.toNat then 0 else s.timeout
      lastlen := BitVec.ofNat 16 cs.length }

/-- R172: whatever state reception starts in, after two frames of equal length the second, if valid, is committed at its
closing break; after two of differing length the second is not. -/
def Obligations.TwoEqualFramesAreNeededForTrust : Prop :=
  ∀ (s : State) (cs ds : List (Bool × Byte)),
    s.ieRx = true → noBreak cs = true → noBreak ds = true → cs.length < 2 ^ 16 → ds.length < 2 ^ 16 →
    ∃ t u, execAll (.rxc true 0 :: characters cs ++ .rxc true 0 :: characters ds) s = .next t ∧
      exec (.rxc true 0) t = .next u ∧
      (cs.length = ds.length → validFrame ds = true →
        u.disp = windowColour s.address ds ∧ u.timeout = 0) ∧
      (cs.length ≠ ds.length → u.disp = t.disp ∧ u.timeout = t.timeout)

/-- R41, R175: no stimulus but a character received while IE_RX = 1 (and a reset) writes the receiver's registers, and
GOOD is set by a break alone. -/
def Obligations.ReceiverRegistersAreTheReceivers : Prop :=
  (∀ (i : Instr) (s t : State), i.site = .evt → isReset i = false → exec i s = .next t →
    (∀ f d, i = .rxc f d → s.ieRx = false) →
    t.stg = s.stg ∧ t.slot = s.slot ∧ t.lastlen = s.lastlen ∧ t.good = s.good) ∧
  (∀ (f : Bool) (d : Byte) (s t : State), exec (.rxc f d) s = .next t → s.good = false → t.good = true →
    f = true ∧ d = 0)

/-- R250, R251, R260: when a character detects X1, X2 or X3, and what the condition comes to. -/
def Obligations.CharacterConditionsAndTheirEffects : Prop :=
  ∀ (f : Bool) (d : Byte) (s t : State), exec (.rxc f d) s = .next t →
    (detects (.rxc f d) s = some .x1 ↔ s.ieRx = true ∧ f = true ∧ d ≠ 0) ∧
    (detects (.rxc f d) s = some .x2 ↔ s.ieRx = true ∧ f = false ∧ d ≠ 0 ∧ s.slot = 0) ∧
    (detects (.rxc f d) s = some .x3 ↔ s.ieRx = true ∧ f = true ∧ d = 0 ∧ s.slot ≠ s.lastlen) ∧
    (detects (.rxc f d) s = some .x1 → t.good = false ∧ t.stg = s.stg) ∧
    (detects (.rxc f d) s = some .x2 → t.good = false) ∧
    (detects (.rxc f d) s = some .x3 → t.lastlen = s.slot ∧ t.disp = s.disp ∧ t.timeout = s.timeout)

/-- R180 (the spec's reference receiver, from general knowledge; log entry 9): the samples of one character deliver its
byte, with the flag the tested stop bits give. -/
def Obligations.LineDeliversTheCharacter : Prop :=
  ∀ (check : StopCheck) (d : Byte) (a b : Bool) (rest : List Bool),
    lineCharacters check .hunt (characterSamples d a b ++ rest) =
      (!a || (check == .both && !b), d) ::
        lineCharacters check (if (!a || (check == .both && !b)) && !b then .waitHigh else .hunt) rest

/-- R181 (as R180): a low period of ten bit times or more delivers exactly one break character, however long it lasts. -/
def Obligations.LongBreakIsOneCharacter : Prop :=
  ∀ (check : StopCheck) (n : Nat) (rest : List Bool), 10 ≤ n →
    lineCharacters check .hunt (List.replicate n false ++ true :: rest) =
      (true, 0) :: lineCharacters check .hunt rest

/-! ## The mode controller -/

/-- R201: MC.KICK writes no register but MC_STEP; its pulse is counted in the model's own field (log entry 5). -/
def Obligations.KickPulsesAndMovesOn : Prop :=
  decodeMcs 0 = .ok .mcKick ∧ (∀ s : State, detects .mcKick s = none) ∧
  ∀ s : State, exec .mcKick s = .next { s with wdtKicks := s.wdtKicks + 1, mcStep := 1 }

/-- R202: all ten pins are sampled at one instant. -/
def Obligations.SwitchesAreSampledTogether : Prop :=
  decodeMcs 1 = .ok .mcRdsw ∧ (∀ s : State, detects .mcRdsw s = none) ∧
  ∀ s : State, exec .mcRdsw s = .next { s with swlatch := s.pins, mcStep := 2 }

/-- R203: MODE from the mode pin; the frame is stated with the model's own decode outputs set aside (log entry 6). -/
def Obligations.ModeFollowsTheModePin : Prop :=
  decodeMcs 2 = .ok .mcWrmode ∧ (∀ s : State, detects .mcWrmode s = none) ∧
  ∀ s : State, ∃ t, exec .mcWrmode s = .next t ∧
    t.mode = (if s.swlatch.getLsbD 9 = s.cfg.modePinDmx then .dmx else .funMode) ∧ t.mcStep = 3 ∧
    { t with swSetting := s.swSetting, mode := s.mode, mcStep := s.mcStep } = s

/-- R204, R205: the two pieces of ADDRESS, in either byte order, and the whole after both. -/
def Obligations.AddressIsWrittenInTwoPieces : Prop :=
  decodeMcs 3 = .ok .mcWraddr0 ∧ decodeMcs 4 = .ok .mcWraddr1 ∧
  (∀ s : State, detects .mcWraddr0 s = none ∧ detects .mcWraddr1 s = none) ∧
  ∀ s : State, ∃ t u v,
    exec .mcWraddr0 s = .next t ∧ exec .mcWraddr1 s = .next u ∧
    execAll [.mcWraddr0, .mcWraddr1] s = .next v ∧
    t.mcStep = 4 ∧ u.mcStep = 5 ∧
    { t with swSetting := s.swSetting, address := s.address, mcStep := s.mcStep } = s ∧
    { u with swSetting := s.swSetting, address := s.address, mcStep := s.mcStep } = s ∧
    (s.cfg.addressOrder = .lowFirst →
      (∀ k, k < 8 → t.address.getLsbD k = !s.swlatch.getLsbD k) ∧ t.address.getLsbD 8 = s.address.getLsbD 8 ∧
      (∀ k, k < 8 → u.address.getLsbD k = s.address.getLsbD k) ∧ u.address.getLsbD 8 = !s.swlatch.getLsbD 8) ∧
    (s.cfg.addressOrder = .highFirst →
      (∀ k, k < 8 → t.address.getLsbD k = s.address.getLsbD k) ∧ t.address.getLsbD 8 = !s.swlatch.getLsbD 8 ∧
      (∀ k, k < 8 → u.address.getLsbD k = !s.swlatch.getLsbD k) ∧ u.address.getLsbD 8 = s.address.getLsbD 8) ∧
    (∀ k, k < 9 → v.address.getLsbD k = !s.swlatch.getLsbD k) ∧ v.mcStep = 5

/-- R206, R207, R208, R219, R220, R221: the branch, the enables and the steady indicator. -/
def Obligations.BranchAndEnableSteps : Prop :=
  decodeMcs 5 = .ok .mcDispatch ∧ decodeMcs 6 = .ok .mcIetmr1 ∧ decodeMcs 7 = .ok .mcIerx1 ∧
  decodeMcs 18 = .ok .mcFietmr1 ∧ decodeMcs 19 = .ok .mcIerx0 ∧ decodeMcs 20 = .ok .mcLedon ∧
  (∀ i ∈ [Instr.mcDispatch, .mcIetmr1, .mcIerx1, .mcFietmr1, .mcIerx0, .mcLedon], ∀ s : State, detects i s = none) ∧
  ∀ s : State,
    exec .mcDispatch s = .next { s with mcStep := if s.mode = .dmx then 6 else 18 } ∧
    exec .mcIetmr1 s = .next { s with ieTmr := true, mcStep := 7 } ∧
    exec .mcIerx1 s = .next { s with ieRx := true, mcStep := 8 } ∧
    exec .mcFietmr1 s = .next { s with ieTmr := true, mcStep := 19 } ∧
    exec .mcIerx0 s = .next { s with ieRx := false, mcStep := 20 } ∧
    exec .mcLedon s = .next { s with led := true, mcStep := 21 }

/-- R209, R210: the two byte reads of TIMEOUT, in either byte order. -/
def Obligations.TimeoutIsReadInTwoBytes : Prop :=
  decodeMcs 8 = .ok .mcRdto0 ∧ decodeMcs 9 = .ok .mcRdto1 ∧
  (∀ s : State, detects .mcRdto0 s = none ∧ detects .mcRdto1 s = none) ∧
  ∀ s : State, ∃ t u,
    exec .mcRdto0 s = .next t ∧ exec .mcRdto1 s = .next u ∧ t.mcStep = 9 ∧ u.mcStep = 10 ∧
    { t with tosnap := s.tosnap, mcStep := s.mcStep } = s ∧ { u with tosnap := s.tosnap, mcStep := s.mcStep } = s ∧
    (s.cfg.timeoutReadOrder = .lowFirst →
      t.tosnap.toNat = s.tosnap.toNat / 256 * 256 + s.timeout.toNat % 256 ∧
      u.tosnap.toNat = s.timeout.toNat / 256 * 256 + s.tosnap.toNat % 256) ∧
    (s.cfg.timeoutReadOrder = .highFirst →
      t.tosnap.toNat = s.timeout.toNat / 256 * 256 + s.tosnap.toNat % 256 ∧
      u.tosnap.toNat = s.tosnap.toNat / 256 * 256 + s.timeout.toNat % 256)

/-- R211: the loss test, unsigned and on the snapshot, and X4 with the branch to 11. -/
def Obligations.LossIsTestedOnTheSnapshot : Prop :=
  decodeMcs 10 = .ok .mcTest ∧
  ∀ s : State,
    exec .mcTest s = .next { s with mcStep := if 480 ≤ s.tosnap.toNat then 11 else 17 } ∧
    detects .mcTest s = if 480 ≤ s.tosnap.toNat then some .x4 else none

/-- R250, R252: X4 is detected by an MSTEP exactly at MC.TEST with the snapshot at loss, and by a POLL exactly if one of the
micro-steps of its pass is such a one, so never in a Fun pass; X5 is WDTX, and no other stimulus detects either (that conditions
are an observation, and which stimulus they count to, is the model's reading: DEDUCED, log entry 18). -/
def Obligations.LossIsDetectedByTheControllerAlone : Prop :=
  (∀ s : State, s.mcStep = 10 → detects .mstep s = if 480 ≤ s.tosnap.toNat then some .x4 else none) ∧
  (∀ s : State, s.mcStep ≠ 10 → detects .mstep s = none) ∧
  (∀ s : State, s.mcStep = 0 →
    detects .poll s =
      if s.pins.getLsbD 9 = s.cfg.modePinDmx ∧ 480 ≤ s.timeout.toNat then some .x4 else none) ∧
  (∀ s : State, 18 ≤ s.mcStep.toNat → detects .poll s = none) ∧
  (∀ s : State, detects .poll s = none ∨ detects .poll s = some .x4) ∧
  (∀ s : State, detects .poll s = some .x4 ↔
    ∃ k t, (∀ j u, 0 < j → j ≤ k → execAll (List.replicate j .mstep) s = .next u → u.mcStep ≠ 0) ∧
      execAll (List.replicate k .mstep) s = .next t ∧ t.mcStep = 10 ∧ 480 ≤ t.tosnap.toNat) ∧
  (∀ s : State, detects .wdtx s = some .x5 ∧ detects .por s = none) ∧
  (∀ (i : Instr) (s : State), detects i s = some .x5 → i = .wdtx) ∧
  (∀ (i : Instr) (s : State), i.site = .evt → detects i s = some .x4 → i = .mstep ∨ i = .poll)

/-- R212, R213, R214: the three black bytes, and all three with nothing in between. -/
def Obligations.LossBlacksTheDisplayByteByByte : Prop :=
  decodeMcs 11 = .ok .mcBlkr ∧ decodeMcs 12 = .ok .mcBlkg ∧ decodeMcs 13 = .ok .mcBlkb ∧
  (∀ s : State, detects .mcBlkr s = none ∧ detects .mcBlkg s = none ∧ detects .mcBlkb s = none) ∧
  ∀ s : State,
    execAll [.mcBlkr, .mcBlkg, .mcBlkb] s = .next { s with disp := ⟨0, 0, 0⟩, mcStep := 14 } ∧
    exec .mcBlkr s = .next { s with disp := ⟨0, s.disp.g, s.disp.b⟩, mcStep := 12 } ∧
    exec .mcBlkg s = .next { s with disp := ⟨s.disp.r, 0, s.disp.b⟩, mcStep := 13 } ∧
    exec .mcBlkb s = .next { s with disp := ⟨s.disp.r, s.disp.g, 0⟩, mcStep := 14 }

/-- R215, R216: the two byte writes of the clamp, in either byte order; both together write 480. -/
def Obligations.ClampWritesTheThresholdInTwoBytes : Prop :=
  decodeMcs 14 = .ok .mcClamp0 ∧ decodeMcs 15 = .ok .mcClamp1 ∧
  (∀ s : State, detects .mcClamp0 s = none ∧ detects .mcClamp1 s = none) ∧
  ∀ s : State, ∃ t u v,
    exec .mcClamp0 s = .next t ∧ exec .mcClamp1 s = .next u ∧ execAll [.mcClamp0, .mcClamp1] s = .next v ∧
    t.mcStep = 15 ∧ u.mcStep = 16 ∧
    { t with timeout := s.timeout, mcStep := s.mcStep } = s ∧ { u with timeout := s.timeout, mcStep := s.mcStep } = s ∧
    (s.cfg.timeoutWriteOrder = .lowFirst →
      t.timeout.toNat = s.timeout.toNat / 256 * 256 + 0xE0 ∧ u.timeout.toNat = 0x0100 + s.timeout.toNat % 256) ∧
    (s.cfg.timeoutWriteOrder = .highFirst →
      t.timeout.toNat = 0x0100 + s.timeout.toNat % 256 ∧ u.timeout.toNat = s.timeout.toNat / 256 * 256 + 0xE0) ∧
    v.timeout.toNat = 480 ∧ v.mcStep = 16

/-- R217, R218: the blinking indicator is a copy of the chosen bit of TICK. -/
def Obligations.IndicatorCopiesABitOfTick : Prop :=
  decodeMcs 16 = .ok .mcLedslow ∧ decodeMcs 17 = .ok .mcLedfast ∧
  (∀ s : State, detects .mcLedslow s = none ∧ detects .mcLedfast s = none) ∧
  ∀ s : State,
    exec .mcLedslow s = .next { s with led := s.tick.toNat.testBit s.cfg.slowBit.val, mcStep := 0 } ∧
    exec .mcLedfast s = .next { s with led := s.tick.toNat.testBit s.cfg.fastBit.val, mcStep := 0 }

/-- R222, R226: MC.FUNDEC writes the colour that the priorities of R226 give the address. -/
def Obligations.FunDecodeFollowsThePriorities : Prop :=
  decodeMcs 21 = .ok .mcFundec ∧ (∀ s : State, detects .mcFundec s = none) ∧
  ∀ s : State, exec .mcFundec s = .next { s with
    mcStep := 22
    funcol :=
      if s.address.getLsbD 8 = true ∨ s.address.getLsbD 7 = true then ⟨32, 32, 32⟩
      else if s.address.getLsbD 0 = true then ⟨255, 0, 0⟩
      else if s.address.getLsbD 1 = true then ⟨0, 255, 0⟩
      else if s.address.getLsbD 2 = true then ⟨0, 0, 255⟩
      else if s.address.getLsbD 3 = true then ⟨255, 255, 0⟩
      else if s.address.getLsbD 4 = true then ⟨255, 0, 255⟩
      else if s.address.getLsbD 5 = true then ⟨0, 255, 255⟩
      else if s.address.getLsbD 6 = true then ⟨255, 255, 255⟩
      else ⟨0, 0, 0⟩ }

/-- R227 to R236: each row is selected by its match and mask and by nothing else, and the colour it writes to FUNCOL. -/
def Obligations.FunRowsByMatchAndMask : Prop :=
  (∀ (i : Instr) (s : State), i.site = .fun9 → detects i s = none) ∧
  ∀ (a : BitVec 9) (s : State),
    (∀ x, exec (.funRsvd8 x) s = .next { s with funcol := ⟨32, 32, 32⟩ }) ∧
    (∀ x, exec (.funRsvd7 x) s = .next { s with funcol := ⟨32, 32, 32⟩ }) ∧
    (∀ x, exec (.funRed x) s = .next { s with funcol := ⟨255, 0, 0⟩ }) ∧
    (∀ x, exec (.funGreen x) s = .next { s with funcol := ⟨0, 255, 0⟩ }) ∧
    (∀ x, exec (.funBlue x) s = .next { s with funcol := ⟨0, 0, 255⟩ }) ∧
    (∀ x, exec (.funYellow x) s = .next { s with funcol := ⟨255, 255, 0⟩ }) ∧
    (∀ x, exec (.funMagenta x) s = .next { s with funcol := ⟨255, 0, 255⟩ }) ∧
    (∀ x, exec (.funCyan x) s = .next { s with funcol := ⟨0, 255, 255⟩ }) ∧
    exec .funWhite s = .next { s with funcol := ⟨255, 255, 255⟩ } ∧
    exec .funBlack s = .next { s with funcol := ⟨0, 0, 0⟩ } ∧
    (a &&& 0x100 = 0x100 ↔ ∃ x, decodeFun a = .funRsvd8 x) ∧
    (a &&& 0x180 = 0x080 ↔ ∃ x, decodeFun a = .funRsvd7 x) ∧
    (a &&& 0x181 = 0x001 ↔ ∃ x, decodeFun a = .funRed x) ∧
    (a &&& 0x183 = 0x002 ↔ ∃ x, decodeFun a = .funGreen x) ∧
    (a &&& 0x187 = 0x004 ↔ ∃ x, decodeFun a = .funBlue x) ∧
    (a &&& 0x18F = 0x008 ↔ ∃ x, decodeFun a = .funYellow x) ∧
    (a &&& 0x19F = 0x010 ↔ ∃ x, decodeFun a = .funMagenta x) ∧
    (a &&& 0x1BF = 0x020 ↔ ∃ x, decodeFun a = .funCyan x) ∧
    (a = 0x040 ↔ decodeFun a = .funWhite) ∧
    (a = 0x000 ↔ decodeFun a = .funBlack)

/-- R223, R224, R225: the three colour bytes of a Fun pass. -/
def Obligations.FunColourIsWrittenByteByByte : Prop :=
  decodeMcs 22 = .ok .mcFunr ∧ decodeMcs 23 = .ok .mcFung ∧ decodeMcs 24 = .ok .mcFunb ∧
  (∀ s : State, detects .mcFunr s = none ∧ detects .mcFung s = none ∧ detects .mcFunb s = none) ∧
  ∀ s : State,
    exec .mcFunr s = .next { s with disp := ⟨s.funcol.r, s.disp.g, s.disp.b⟩, mcStep := 23 } ∧
    exec .mcFung s = .next { s with disp := ⟨s.disp.r, s.funcol.g, s.disp.b⟩, mcStep := 24 } ∧
    exec .mcFunb s = .next { s with disp := ⟨s.disp.r, s.disp.g, s.funcol.b⟩, mcStep := 0 }

/-- R237: the switch decode; that its result stands in the model's own field, and nowhere else, is log entry 6. -/
def Obligations.SwitchDecodeGivesModeAndAddress : Prop :=
  ∀ (m : Bool) (h : BitVec 8) (a : Bool) (s : State), ∃ t,
    exec (.swDecode m h a) s = .next t ∧ { t with swSetting := s.swSetting } = s ∧
    t.swSetting.mode = (if m = s.cfg.modePinDmx then .dmx else .funMode) ∧
    t.swSetting.address.getLsbD 0 = !a ∧
    ∀ k, k < 8 → t.swSetting.address.getLsbD (k + 1) = !h.getLsbD k

/-- R120, R200: MSTEP runs the row that MC_STEP selects; 25 to 31 select none and are refused (R115; under the model's own name,
log entry 17). -/
def Obligations.MicroStepRunsTheSelectedRow : Prop :=
  ∀ s : State,
    (s.mcStepLegal → ∃ i t, decodeMcs s.mcStep = .ok i ∧ exec i s = .next t ∧ exec .mstep s = .next t ∧ t.mcStepLegal) ∧
    (¬ s.mcStepLegal → exec .mstep s = .refused (.mcStepReserved s.mcStep))

/-- R200: the lengths of the passes, 17 in DMX mode with the signal lost, 12 with signal, 13 in Fun mode. -/
def Obligations.PassesTakeTheirNumberOfMicroSteps : Prop :=
  ∀ (s : State) (n : Nat), s.mcStep = 0 →
    n = (if s.pins.getLsbD 9 = s.cfg.modePinDmx then (if 480 ≤ s.timeout.toNat then 17 else 12) else 13) →
    (∃ t, execAll (List.replicate n .mstep) s = .next t ∧ t.mcStep = 0 ∧ exec .poll s = .next t) ∧
    ∀ k, 0 < k → k < n → ∃ t, execAll (List.replicate k .mstep) s = .next t ∧ t.mcStep ≠ 0

/-- R238: the net effect of a whole pass, the same for every byte order. That the kick is a count in `wdtKicks` and the decode's
outputs stand in `swSetting` is the model's choice (DESIGN CHOICE, log entries 5 and 6). -/
def Obligations.PollHasTheNetEffectOfAPass : Prop :=
  ∀ s : State, s.mcStep = 0 →
    exec .poll s = .next (
      if s.pins.getLsbD 9 = s.cfg.modePinDmx then
        if 480 ≤ s.timeout.toNat then
          { s with
            wdtKicks := s.wdtKicks + 1, swlatch := s.pins, swSetting := switchDecode s.cfg s.pins
            mode := .dmx, address := ~~~(s.pins.extractLsb' 0 9), ieTmr := true, ieRx := true, tosnap := s.timeout
            disp := ⟨0, 0, 0⟩, timeout := 480, led := s.tick.getLsbD s.cfg.slowBit.val }
        else
          { s with
            wdtKicks := s.wdtKicks + 1, swlatch := s.pins, swSetting := switchDecode s.cfg s.pins
            mode := .dmx, address := ~~~(s.pins.extractLsb' 0 9), ieTmr := true, ieRx := true, tosnap := s.timeout
            led := s.tick.getLsbD s.cfg.fastBit.val }
      else
        { s with
          wdtKicks := s.wdtKicks + 1, swlatch := s.pins, swSetting := switchDecode s.cfg s.pins
          mode := .funMode, address := ~~~(s.pins.extractLsb' 0 9), ieTmr := true, ieRx := false, led := true
          funcol := funColour (~~~(s.pins.extractLsb' 0 9)), disp := funColour (~~~(s.pins.extractLsb' 0 9)) })

/-- R238: from every legal position POLL finishes the pass in progress; from 25 to 31 it is refused (R115; under the model's own
name, log entry 17). -/
def Obligations.PollFinishesThePassInProgress : Prop :=
  ∀ s : State,
    (s.mcStepLegal → ∃ t, exec .poll s = .next t ∧ t.mcStep = 0) ∧
    (¬ s.mcStepLegal → exec .poll s = .refused (.mcStepReserved s.mcStep))

/-- R122: SW sets the ten pins, and no other stimulus, a reset included, changes them. -/
def Obligations.PinsHoldUntilTheNextSwitchStimulus : Prop :=
  (∀ (w : BitVec 10) (s : State), exec (.sw w) s = .next { s with pins := w }) ∧
  (∀ (i : Instr) (s t : State), (∀ w, i ≠ .sw w) → exec i s = .next t → t.pins = s.pins)

/-! ## Hazards -/

/-- R304: a cycle counted between the two byte reads of TIMEOUT gives a snapshot of two different values. -/
def Obligations.TimeoutReadCanBeTorn : Prop :=
  ∀ s : State, s.mcStep = 8 → s.ieTmr = true → s.phase = 0x01 →
    ∃ t, execAll [.mstep, .tmr, .mstep] s = .next t ∧ t.mcStep = 10 ∧
      (s.cfg.timeoutReadOrder = .lowFirst →
        t.tosnap.toNat = (s.timeout.toNat + 1) % 65536 / 256 * 256 + s.timeout.toNat % 256) ∧
      (s.cfg.timeoutReadOrder = .highFirst →
        t.tosnap.toNat = s.timeout.toNat / 256 * 256 + (s.timeout.toNat + 1) % 65536 % 256)

/-- R305, R216, by where the commit falls once the snapshot shows loss. Before MC.TEST or MC.BLKR it is wholly overwritten;
before MC.BLKG red survives, before MC.BLKB red and green, before MC.CLAMP0 the whole colour, each with TIMEOUT clamped to 480;
between the halves of the clamp it leaves 256 or 224 and is kept; after the clamp it is kept. -/
def Obligations.CommitInALossPass : Prop :=
  ∀ s : State, s.ieRx = true → s.good = true → s.slot = s.lastlen →
    (s.mcStep = 10 → 480 ≤ s.tosnap.toNat → ∃ t, execAll (.rxc true 0 :: List.replicate 6 .mstep) s = .next t ∧
      t.mcStep = 16 ∧ t.disp = ⟨0, 0, 0⟩ ∧ t.timeout = 480) ∧
    (s.mcStep = 11 → ∃ t, execAll (.rxc true 0 :: List.replicate 5 .mstep) s = .next t ∧
      t.mcStep = 16 ∧ t.disp = ⟨0, 0, 0⟩ ∧ t.timeout = 480) ∧
    (s.mcStep = 12 → ∃ t, execAll (.rxc true 0 :: List.replicate 4 .mstep) s = .next t ∧
      t.mcStep = 16 ∧ t.disp = ⟨s.stg.r, 0, 0⟩ ∧ t.timeout = 480) ∧
    (s.mcStep = 13 → ∃ t, execAll (.rxc true 0 :: List.replicate 3 .mstep) s = .next t ∧
      t.mcStep = 16 ∧ t.disp = ⟨s.stg.r, s.stg.g, 0⟩ ∧ t.timeout = 480) ∧
    (s.mcStep = 14 → ∃ t, execAll (.rxc true 0 :: List.replicate 2 .mstep) s = .next t ∧
      t.mcStep = 16 ∧ t.disp = s.stg ∧ t.timeout = 480) ∧
    (s.mcStep = 15 → ∃ t, execAll [.rxc true 0, .mstep] s = .next t ∧ t.mcStep = 16 ∧ t.disp = s.stg ∧
      t.timeout = (match s.cfg.timeoutWriteOrder with | .lowFirst => 256 | .highFirst => 224)) ∧
    (s.mcStep = 16 → ∃ t, execAll [.rxc true 0, .mstep] s = .next t ∧ t.mcStep = 0 ∧ t.disp = s.stg ∧ t.timeout = 0)

/-- R259: the order of the two handlers is observable in TIMEOUT and on the outputs. -/
def Obligations.HandlerOrderIsObservable : Prop :=
  ∀ s : State, s.ieTmr = true → s.ieRx = true → s.phase = 0x01 → s.good = true → s.slot = s.lastlen →
    ∃ t u, execAll [.tmr, .rxc true 0] s = .next t ∧ execAll [.rxc true 0, .tmr] s = .next u ∧
      t.timeout = 0 ∧ u.timeout = 1 ∧ t.disp = s.stg ∧ u.disp = s.stg ∧
      t.out = ⟨s.disp.r.getLsbD 0, s.disp.g.getLsbD 0, s.disp.b.getLsbD 0⟩ ∧
      u.out = ⟨s.stg.r.getLsbD 0, s.stg.g.getLsbD 0, s.stg.b.getLsbD 0⟩

/-- R22, R78: the display changes by a commit of the whole staging triple, by one byte of a micro-step, by a pass, or by a
reset, and by nothing else. -/
def Obligations.DisplayChangesOnlyByItsWriters : Prop :=
  ∀ (i : Instr) (s t : State), i.site = .evt → exec i s = .next t → t.disp ≠ s.disp →
    isReset i = true ∨ i = .poll ∨
    (i = .rxc true 0 ∧ s.ieRx = true ∧ s.good = true ∧ s.slot = s.lastlen ∧ t.disp = s.stg ∧ t.timeout = 0) ∨
    (i = .mstep ∧ ((s.mcStep = 11 ∧ t.disp = ⟨0, s.disp.g, s.disp.b⟩) ∨ (s.mcStep = 12 ∧ t.disp = ⟨s.disp.r, 0, s.disp.b⟩) ∨
      (s.mcStep = 13 ∧ t.disp = ⟨s.disp.r, s.disp.g, 0⟩) ∨ (s.mcStep = 22 ∧ t.disp = ⟨s.funcol.r, s.disp.g, s.disp.b⟩) ∨
      (s.mcStep = 23 ∧ t.disp = ⟨s.disp.r, s.funcol.g, s.disp.b⟩) ∨
      (s.mcStep = 24 ∧ t.disp = ⟨s.disp.r, s.disp.g, s.funcol.b⟩)))

/-- R33, R41: TIMEOUT is written by the last slice (+1), by a commit (0) and by the clamp of a loss pass, and by nothing else but
a reset; first for the stimuli, then for the rows. -/
def Obligations.TimeoutHasThreeWriters : Prop :=
  (∀ (i : Instr) (s t : State), i.site = .evt → exec i s = .next t → t.timeout ≠ s.timeout →
    isReset i = true ∨
    (i = .tmr ∧ s.ieTmr = true ∧ s.phase = 0x01 ∧ t.timeout = s.timeout + 1) ∨
    (i = .rxc true 0 ∧ s.ieRx = true ∧ s.good = true ∧ s.slot = s.lastlen ∧ t.timeout = 0) ∨
    (i = .mstep ∧ ((s.mcStep = 14 ∧ exec .mcClamp0 s = .next t) ∨ (s.mcStep = 15 ∧ exec .mcClamp1 s = .next t))) ∨
    (i = .poll ∧ (s.mcStep.toNat ≤ 10 → detects .poll s = some .x4) ∧
      ((s.mcStep.toNat ≤ 14 ∧ t.timeout = 480) ∨
       (s.mcStep = 15 ∧ ∃ u, exec .mcClamp1 s = .next u ∧ t.timeout = u.timeout)))) ∧
  (∀ (i : Instr) (s t : State), i.site ≠ .evt → exec i s = .next t → t.timeout ≠ s.timeout →
    i ∈ [Instr.pwmP0, .rxBreak, .mcClamp0, .mcClamp1])

/-- R35, R41: ADDRESS is written by the two micro-steps MC.WRADDR0 and MC.WRADDR1, alone or within a pass, from the switch word
sampled, and by nothing else but a reset; first for the stimuli, then for the rows. -/
def Obligations.AddressHasOneWriter : Prop :=
  (∀ (i : Instr) (s t : State), i.site = .evt → exec i s = .next t → t.address ≠ s.address →
    isReset i = true ∨
    (i = .mstep ∧ ((s.mcStep = 3 ∧ exec .mcWraddr0 s = .next t) ∨ (s.mcStep = 4 ∧ exec .mcWraddr1 s = .next t))) ∨
    (i = .poll ∧
      ((s.mcStep.toNat ≤ 3 ∧ t.address = ~~~(t.swlatch.extractLsb' 0 9)) ∨
       (s.mcStep = 4 ∧ ∃ u, exec .mcWraddr1 s = .next u ∧ t.address = u.address)))) ∧
  (∀ (i : Instr) (s t : State), i.site ≠ .evt → exec i s = .next t → t.address ≠ s.address →
    i ∈ [Instr.mcWraddr0, .mcWraddr1])

/-- R41: each agent writes its own registers and no other, as the table of writers has it; first for the stimuli, then for the
rows of each decode table (the model's own fields: log entries 5 and 6). -/
def Obligations.EachAgentWritesItsOwnRegisters : Prop :=
  (∀ s t : State, exec .tmr s = .next t → pwmWritesOnly s t) ∧
  (∀ (f : Bool) (d : Byte) (s t : State), exec (.rxc f d) s = .next t → rxWritesOnly s t) ∧
  (∀ s t : State, exec .mstep s = .next t ∨ exec .poll s = .next t → mcWritesOnly s t) ∧
  (∀ (i : Instr) (s t : State), exec i s = .next t →
    (i.site = .phase → pwmWritesOnly s t) ∧
    (i.site = .rxc → rxWritesOnly s t) ∧
    (i.site = .mcs → mcWritesOnly s t) ∧
    (i.site = .fun9 → { t with funcol := s.funcol } = s) ∧
    (i.site = .sww → { t with swSetting := s.swSetting } = s))

/-! ## Reset and invariants -/

/-- R290, R291, R292: both resets load the values of R43 (decision D11: the spec's choice) into every register, from any
state, and leave the pins; that the stimuli, the parameters and the count of pulses stay is the model's (log entries 1, 2
and 5), and so is the value of the decode outputs (log entry 6). -/
def Obligations.ResetLoadsEveryRegister : Prop :=
  ∀ s : State, ∃ t, exec .por s = .next t ∧ exec .wdtx s = .next t ∧
    t = { s with
      phase := 0x80, tick := 0, timeout := 0, disp := ⟨0, 0, 0⟩, stg := ⟨0, 0, 0⟩, slot := 0, lastlen := 0
      good := false, address := 0, mode := .dmx, ieTmr := false, ieRx := false, led := false
      out := ⟨false, false, false⟩, tmrLoad := 0, mcStep := 0, swlatch := 0, tosnap := 0, funcol := ⟨0, 0, 0⟩
      swSetting := ⟨.dmx, 0⟩ }

/-- The reset state is one that a reset leaves, with legal positions and a consistent pass (the values are R43's choice). -/
def Obligations.ResetStateIsSafe : Prop :=
  exec .por State.reset = .next State.reset ∧ State.reset.positionsLegal ∧ State.reset.passConsistent ∧
    State.reset.cfg.wf = true

/-- R44, R112, R115: from whatever state, after a step PHASE is one-hot and MC_STEP a micro-step. -/
def Obligations.EveryStepKeepsThePositionsLegal : Prop :=
  ∀ s t : State, step s = .next t → t.positionsLegal

/-- R200 to R225: every step, handlers between micro-steps included, keeps what the pass has settled: the branch follows
the switches sampled in the same pass (R206), the address is whole where it is decoded (R222), reception is off while the
Fun colour is written (R220), and at the end of a Fun pass the indicator is lit. -/
def Obligations.EveryStepKeepsThePassConsistent : Prop :=
  ∀ s t : State, s.passConsistent → step s = .next t → t.passConsistent

/-- R254, R8: no condition stops an agent: at legal positions every admissible stimulus is executed and consumed, and
stays so for the next. The model's choices in it (DESIGN CHOICE): the list is part of State and a step consumes its head (log
entry 1), the parameters are kept in State (log entry 2), and a WDTX is admissible at any time, where R239 and R268 admit it
only after T_WDT without a kick (log entry 8). -/
def Obligations.AdmissibleStimulusIsExecuted : Prop :=
  ∀ (s : State) (w : StimWord) (rest : List StimWord), s.positionsLegal → s.stim = w :: rest → admissible s w →
    ∃ t, step s = .next t ∧ t.stim = rest ∧ t.cfg = s.cfg ∧ t.positionsLegal

/-- R144: once set, IE_TMR stays set until a reset. -/
def Obligations.TimerEnableStaysUntilReset : Prop :=
  ∀ (i : Instr) (s t : State), isReset i = false → s.ieTmr = true → exec i s = .next t → t.ieTmr = true

/-- R294: after a reset only the controller can run: a TMR is not admitted and a character is lost. The first pass enables
the timing interrupt, and in DMX mode alone the serial one, and the first slice is then PWM.P7 (the reset values are R43's
choice). -/
def Obligations.FirstPassAfterResetIsTheBoot : Prop :=
  ∀ s : State, ∃ r t u, exec .por s = .next r ∧
    (∀ v, exec .tmr r ≠ .next v) ∧ (∀ f d, exec (.rxc f d) r = .next r) ∧
    exec .poll r = .next t ∧ t.ieTmr = true ∧
    (t.ieRx = true ↔ s.pins.getLsbD 9 = s.cfg.modePinDmx) ∧
    t.address = ~~~(s.pins.extractLsb' 0 9) ∧
    exec .tmr t = .next u ∧ exec .pwmP7 t = .next u
end

