-- ==== Sys2Proof/Laws/State.lean ====
section
/-! SUPPORT. What each named operation leaves in each field of State: one lemma per field per operation, true by rfl. -/

namespace Sys2Proof.Machine

open Sys2Proof

@[simp] theorem State.goto_phase (s : State) (n : BitVec 5) : (s.goto n).phase = s.phase := rfl
@[simp] theorem State.goto_tick (s : State) (n : BitVec 5) : (s.goto n).tick = s.tick := rfl
@[simp] theorem State.goto_timeout (s : State) (n : BitVec 5) : (s.goto n).timeout = s.timeout := rfl
@[simp] theorem State.goto_disp (s : State) (n : BitVec 5) : (s.goto n).disp = s.disp := rfl
@[simp] theorem State.goto_stg (s : State) (n : BitVec 5) : (s.goto n).stg = s.stg := rfl
@[simp] theorem State.goto_slot (s : State) (n : BitVec 5) : (s.goto n).slot = s.slot := rfl
@[simp] theorem State.goto_lastlen (s : State) (n : BitVec 5) : (s.goto n).lastlen = s.lastlen := rfl
@[simp] theorem State.goto_good (s : State) (n : BitVec 5) : (s.goto n).good = s.good := rfl
@[simp] theorem State.goto_address (s : State) (n : BitVec 5) : (s.goto n).address = s.address := rfl
@[simp] theorem State.goto_mode (s : State) (n : BitVec 5) : (s.goto n).mode = s.mode := rfl
@[simp] theorem State.goto_ieTmr (s : State) (n : BitVec 5) : (s.goto n).ieTmr = s.ieTmr := rfl
@[simp] theorem State.goto_ieRx (s : State) (n : BitVec 5) : (s.goto n).ieRx = s.ieRx := rfl
@[simp] theorem State.goto_led (s : State) (n : BitVec 5) : (s.goto n).led = s.led := rfl
@[simp] theorem State.goto_out (s : State) (n : BitVec 5) : (s.goto n).out = s.out := rfl
@[simp] theorem State.goto_tmrLoad (s : State) (n : BitVec 5) : (s.goto n).tmrLoad = s.tmrLoad := rfl
@[simp] theorem State.goto_mcStep (s : State) (n : BitVec 5) : (s.goto n).mcStep = n := rfl
@[simp] theorem State.goto_swlatch (s : State) (n : BitVec 5) : (s.goto n).swlatch = s.swlatch := rfl
@[simp] theorem State.goto_tosnap (s : State) (n : BitVec 5) : (s.goto n).tosnap = s.tosnap := rfl
@[simp] theorem State.goto_funcol (s : State) (n : BitVec 5) : (s.goto n).funcol = s.funcol := rfl
@[simp] theorem State.goto_pins (s : State) (n : BitVec 5) : (s.goto n).pins = s.pins := rfl
@[simp] theorem State.goto_stim (s : State) (n : BitVec 5) : (s.goto n).stim = s.stim := rfl
@[simp] theorem State.goto_cfg (s : State) (n : BitVec 5) : (s.goto n).cfg = s.cfg := rfl
@[simp] theorem State.goto_wdtKicks (s : State) (n : BitVec 5) : (s.goto n).wdtKicks = s.wdtKicks := rfl
@[simp] theorem State.goto_swSetting (s : State) (n : BitVec 5) : (s.goto n).swSetting = s.swSetting := rfl

@[simp] theorem State.toPhase_phase (s : State) (p : Byte) : (s.toPhase p).phase = p := rfl
@[simp] theorem State.toPhase_tick (s : State) (p : Byte) : (s.toPhase p).tick = s.tick := rfl
@[simp] theorem State.toPhase_timeout (s : State) (p : Byte) : (s.toPhase p).timeout = s.timeout := rfl
@[simp] theorem State.toPhase_disp (s : State) (p : Byte) : (s.toPhase p).disp = s.disp := rfl
@[simp] theorem State.toPhase_stg (s : State) (p : Byte) : (s.toPhase p).stg = s.stg := rfl
@[simp] theorem State.toPhase_slot (s : State) (p : Byte) : (s.toPhase p).slot = s.slot := rfl
@[simp] theorem State.toPhase_lastlen (s : State) (p : Byte) : (s.toPhase p).lastlen = s.lastlen := rfl
@[simp] theorem State.toPhase_good (s : State) (p : Byte) : (s.toPhase p).good = s.good := rfl
@[simp] theorem State.toPhase_address (s : State) (p : Byte) : (s.toPhase p).address = s.address := rfl
@[simp] theorem State.toPhase_mode (s : State) (p : Byte) : (s.toPhase p).mode = s.mode := rfl
@[simp] theorem State.toPhase_ieTmr (s : State) (p : Byte) : (s.toPhase p).ieTmr = s.ieTmr := rfl
@[simp] theorem State.toPhase_ieRx (s : State) (p : Byte) : (s.toPhase p).ieRx = s.ieRx := rfl
@[simp] theorem State.toPhase_led (s : State) (p : Byte) : (s.toPhase p).led = s.led := rfl
@[simp] theorem State.toPhase_out (s : State) (p : Byte) : (s.toPhase p).out = s.out := rfl
@[simp] theorem State.toPhase_tmrLoad (s : State) (p : Byte) : (s.toPhase p).tmrLoad = s.tmrLoad := rfl
@[simp] theorem State.toPhase_mcStep (s : State) (p : Byte) : (s.toPhase p).mcStep = s.mcStep := rfl
@[simp] theorem State.toPhase_swlatch (s : State) (p : Byte) : (s.toPhase p).swlatch = s.swlatch := rfl
@[simp] theorem State.toPhase_tosnap (s : State) (p : Byte) : (s.toPhase p).tosnap = s.tosnap := rfl
@[simp] theorem State.toPhase_funcol (s : State) (p : Byte) : (s.toPhase p).funcol = s.funcol := rfl
@[simp] theorem State.toPhase_pins (s : State) (p : Byte) : (s.toPhase p).pins = s.pins := rfl
@[simp] theorem State.toPhase_stim (s : State) (p : Byte) : (s.toPhase p).stim = s.stim := rfl
@[simp] theorem State.toPhase_cfg (s : State) (p : Byte) : (s.toPhase p).cfg = s.cfg := rfl
@[simp] theorem State.toPhase_wdtKicks (s : State) (p : Byte) : (s.toPhase p).wdtKicks = s.wdtKicks := rfl
@[simp] theorem State.toPhase_swSetting (s : State) (p : Byte) : (s.toPhase p).swSetting = s.swSetting := rfl

@[simp] theorem State.renderSlice_phase (s : State) (k : Nat) : (s.renderSlice k).phase = s.phase := rfl
@[simp] theorem State.renderSlice_tick (s : State) (k : Nat) : (s.renderSlice k).tick = s.tick := rfl
@[simp] theorem State.renderSlice_timeout (s : State) (k : Nat) : (s.renderSlice k).timeout = s.timeout := rfl
@[simp] theorem State.renderSlice_disp (s : State) (k : Nat) : (s.renderSlice k).disp = s.disp := rfl
@[simp] theorem State.renderSlice_stg (s : State) (k : Nat) : (s.renderSlice k).stg = s.stg := rfl
@[simp] theorem State.renderSlice_slot (s : State) (k : Nat) : (s.renderSlice k).slot = s.slot := rfl
@[simp] theorem State.renderSlice_lastlen (s : State) (k : Nat) : (s.renderSlice k).lastlen = s.lastlen := rfl
@[simp] theorem State.renderSlice_good (s : State) (k : Nat) : (s.renderSlice k).good = s.good := rfl
@[simp] theorem State.renderSlice_address (s : State) (k : Nat) : (s.renderSlice k).address = s.address := rfl
@[simp] theorem State.renderSlice_mode (s : State) (k : Nat) : (s.renderSlice k).mode = s.mode := rfl
@[simp] theorem State.renderSlice_ieTmr (s : State) (k : Nat) : (s.renderSlice k).ieTmr = s.ieTmr := rfl
@[simp] theorem State.renderSlice_ieRx (s : State) (k : Nat) : (s.renderSlice k).ieRx = s.ieRx := rfl
@[simp] theorem State.renderSlice_led (s : State) (k : Nat) : (s.renderSlice k).led = s.led := rfl
@[simp] theorem State.renderSlice_out (s : State) (k : Nat) : (s.renderSlice k).out = outputLines s.disp k := rfl
@[simp] theorem State.renderSlice_tmrLoad (s : State) (k : Nat) : (s.renderSlice k).tmrLoad = 1#8 <<< k := rfl
@[simp] theorem State.renderSlice_mcStep (s : State) (k : Nat) : (s.renderSlice k).mcStep = s.mcStep := rfl
@[simp] theorem State.renderSlice_swlatch (s : State) (k : Nat) : (s.renderSlice k).swlatch = s.swlatch := rfl
@[simp] theorem State.renderSlice_tosnap (s : State) (k : Nat) : (s.renderSlice k).tosnap = s.tosnap := rfl
@[simp] theorem State.renderSlice_funcol (s : State) (k : Nat) : (s.renderSlice k).funcol = s.funcol := rfl
@[simp] theorem State.renderSlice_pins (s : State) (k : Nat) : (s.renderSlice k).pins = s.pins := rfl
@[simp] theorem State.renderSlice_stim (s : State) (k : Nat) : (s.renderSlice k).stim = s.stim := rfl
@[simp] theorem State.renderSlice_cfg (s : State) (k : Nat) : (s.renderSlice k).cfg = s.cfg := rfl
@[simp] theorem State.renderSlice_wdtKicks (s : State) (k : Nat) : (s.renderSlice k).wdtKicks = s.wdtKicks := rfl
@[simp] theorem State.renderSlice_swSetting (s : State) (k : Nat) : (s.renderSlice k).swSetting = s.swSetting := rfl

@[simp] theorem State.countCycle_phase (s : State) : s.countCycle.phase = s.phase := rfl
@[simp] theorem State.countCycle_tick (s : State) : s.countCycle.tick = s.tick + 1 := rfl
@[simp] theorem State.countCycle_timeout (s : State) : s.countCycle.timeout = s.timeout + 1 := rfl
@[simp] theorem State.countCycle_disp (s : State) : s.countCycle.disp = s.disp := rfl
@[simp] theorem State.countCycle_stg (s : State) : s.countCycle.stg = s.stg := rfl
@[simp] theorem State.countCycle_slot (s : State) : s.countCycle.slot = s.slot := rfl
@[simp] theorem State.countCycle_lastlen (s : State) : s.countCycle.lastlen = s.lastlen := rfl
@[simp] theorem State.countCycle_good (s : State) : s.countCycle.good = s.good := rfl
@[simp] theorem State.countCycle_address (s : State) : s.countCycle.address = s.address := rfl
@[simp] theorem State.countCycle_mode (s : State) : s.countCycle.mode = s.mode := rfl
@[simp] theorem State.countCycle_ieTmr (s : State) : s.countCycle.ieTmr = s.ieTmr := rfl
@[simp] theorem State.countCycle_ieRx (s : State) : s.countCycle.ieRx = s.ieRx := rfl
@[simp] theorem State.countCycle_led (s : State) : s.countCycle.led = s.led := rfl
@[simp] theorem State.countCycle_out (s : State) : s.countCycle.out = s.out := rfl
@[simp] theorem State.countCycle_tmrLoad (s : State) : s.countCycle.tmrLoad = s.tmrLoad := rfl
@[simp] theorem State.countCycle_mcStep (s : State) : s.countCycle.mcStep = s.mcStep := rfl
@[simp] theorem State.countCycle_swlatch (s : State) : s.countCycle.swlatch = s.swlatch := rfl
@[simp] theorem State.countCycle_tosnap (s : State) : s.countCycle.tosnap = s.tosnap := rfl
@[simp] theorem State.countCycle_funcol (s : State) : s.countCycle.funcol = s.funcol := rfl
@[simp] theorem State.countCycle_pins (s : State) : s.countCycle.pins = s.pins := rfl
@[simp] theorem State.countCycle_stim (s : State) : s.countCycle.stim = s.stim := rfl
@[simp] theorem State.countCycle_cfg (s : State) : s.countCycle.cfg = s.cfg := rfl
@[simp] theorem State.countCycle_wdtKicks (s : State) : s.countCycle.wdtKicks = s.wdtKicks := rfl
@[simp] theorem State.countCycle_swSetting (s : State) : s.countCycle.swSetting = s.swSetting := rfl

@[simp] theorem State.clearGood_phase (s : State) : s.clearGood.phase = s.phase := rfl
@[simp] theorem State.clearGood_tick (s : State) : s.clearGood.tick = s.tick := rfl
@[simp] theorem State.clearGood_timeout (s : State) : s.clearGood.timeout = s.timeout := rfl
@[simp] theorem State.clearGood_disp (s : State) : s.clearGood.disp = s.disp := rfl
@[simp] theorem State.clearGood_stg (s : State) : s.clearGood.stg = s.stg := rfl
@[simp] theorem State.clearGood_slot (s : State) : s.clearGood.slot = s.slot := rfl
@[simp] theorem State.clearGood_lastlen (s : State) : s.clearGood.lastlen = s.lastlen := rfl
@[simp] theorem State.clearGood_good (s : State) : s.clearGood.good = false := rfl
@[simp] theorem State.clearGood_address (s : State) : s.clearGood.address = s.address := rfl
@[simp] theorem State.clearGood_mode (s : State) : s.clearGood.mode = s.mode := rfl
@[simp] theorem State.clearGood_ieTmr (s : State) : s.clearGood.ieTmr = s.ieTmr := rfl
@[simp] theorem State.clearGood_ieRx (s : State) : s.clearGood.ieRx = s.ieRx := rfl
@[simp] theorem State.clearGood_led (s : State) : s.clearGood.led = s.led := rfl
@[simp] theorem State.clearGood_out (s : State) : s.clearGood.out = s.out := rfl
@[simp] theorem State.clearGood_tmrLoad (s : State) : s.clearGood.tmrLoad = s.tmrLoad := rfl
@[simp] theorem State.clearGood_mcStep (s : State) : s.clearGood.mcStep = s.mcStep := rfl
@[simp] theorem State.clearGood_swlatch (s : State) : s.clearGood.swlatch = s.swlatch := rfl
@[simp] theorem State.clearGood_tosnap (s : State) : s.clearGood.tosnap = s.tosnap := rfl
@[simp] theorem State.clearGood_funcol (s : State) : s.clearGood.funcol = s.funcol := rfl
@[simp] theorem State.clearGood_pins (s : State) : s.clearGood.pins = s.pins := rfl
@[simp] theorem State.clearGood_stim (s : State) : s.clearGood.stim = s.stim := rfl
@[simp] theorem State.clearGood_cfg (s : State) : s.clearGood.cfg = s.cfg := rfl
@[simp] theorem State.clearGood_wdtKicks (s : State) : s.clearGood.wdtKicks = s.wdtKicks := rfl
@[simp] theorem State.clearGood_swSetting (s : State) : s.clearGood.swSetting = s.swSetting := rfl

@[simp] theorem State.advanceSlot_phase (s : State) : s.advanceSlot.phase = s.phase := rfl
@[simp] theorem State.advanceSlot_tick (s : State) : s.advanceSlot.tick = s.tick := rfl
@[simp] theorem State.advanceSlot_timeout (s : State) : s.advanceSlot.timeout = s.timeout := rfl
@[simp] theorem State.advanceSlot_disp (s : State) : s.advanceSlot.disp = s.disp := rfl
@[simp] theorem State.advanceSlot_stg (s : State) : s.advanceSlot.stg = s.stg := rfl
@[simp] theorem State.advanceSlot_slot (s : State) : s.advanceSlot.slot = s.slot + 1 := rfl
@[simp] theorem State.advanceSlot_lastlen (s : State) : s.advanceSlot.lastlen = s.lastlen := rfl
@[simp] theorem State.advanceSlot_good (s : State) : s.advanceSlot.good = s.good := rfl
@[simp] theorem State.advanceSlot_address (s : State) : s.advanceSlot.address = s.address := rfl
@[simp] theorem State.advanceSlot_mode (s : State) : s.advanceSlot.mode = s.mode := rfl
@[simp] theorem State.advanceSlot_ieTmr (s : State) : s.advanceSlot.ieTmr = s.ieTmr := rfl
@[simp] theorem State.advanceSlot_ieRx (s : State) : s.advanceSlot.ieRx = s.ieRx := rfl
@[simp] theorem State.advanceSlot_led (s : State) : s.advanceSlot.led = s.led := rfl
@[simp] theorem State.advanceSlot_out (s : State) : s.advanceSlot.out = s.out := rfl
@[simp] theorem State.advanceSlot_tmrLoad (s : State) : s.advanceSlot.tmrLoad = s.tmrLoad := rfl
@[simp] theorem State.advanceSlot_mcStep (s : State) : s.advanceSlot.mcStep = s.mcStep := rfl
@[simp] theorem State.advanceSlot_swlatch (s : State) : s.advanceSlot.swlatch = s.swlatch := rfl
@[simp] theorem State.advanceSlot_tosnap (s : State) : s.advanceSlot.tosnap = s.tosnap := rfl
@[simp] theorem State.advanceSlot_funcol (s : State) : s.advanceSlot.funcol = s.funcol := rfl
@[simp] theorem State.advanceSlot_pins (s : State) : s.advanceSlot.pins = s.pins := rfl
@[simp] theorem State.advanceSlot_stim (s : State) : s.advanceSlot.stim = s.stim := rfl
@[simp] theorem State.advanceSlot_cfg (s : State) : s.advanceSlot.cfg = s.cfg := rfl
@[simp] theorem State.advanceSlot_wdtKicks (s : State) : s.advanceSlot.wdtKicks = s.wdtKicks := rfl
@[simp] theorem State.advanceSlot_swSetting (s : State) : s.advanceSlot.swSetting = s.swSetting := rfl

@[simp] theorem State.recordLength_phase (s : State) : s.recordLength.phase = s.phase := rfl
@[simp] theorem State.recordLength_tick (s : State) : s.recordLength.tick = s.tick := rfl
@[simp] theorem State.recordLength_timeout (s : State) : s.recordLength.timeout = s.timeout := rfl
@[simp] theorem State.recordLength_disp (s : State) : s.recordLength.disp = s.disp := rfl
@[simp] theorem State.recordLength_stg (s : State) : s.recordLength.stg = s.stg := rfl
@[simp] theorem State.recordLength_slot (s : State) : s.recordLength.slot = s.slot := rfl
@[simp] theorem State.recordLength_lastlen (s : State) : s.recordLength.lastlen = s.slot := rfl
@[simp] theorem State.recordLength_good (s : State) : s.recordLength.good = s.good := rfl
@[simp] theorem State.recordLength_address (s : State) : s.recordLength.address = s.address := rfl
@[simp] theorem State.recordLength_mode (s : State) : s.recordLength.mode = s.mode := rfl
@[simp] theorem State.recordLength_ieTmr (s : State) : s.recordLength.ieTmr = s.ieTmr := rfl
@[simp] theorem State.recordLength_ieRx (s : State) : s.recordLength.ieRx = s.ieRx := rfl
@[simp] theorem State.recordLength_led (s : State) : s.recordLength.led = s.led := rfl
@[simp] theorem State.recordLength_out (s : State) : s.recordLength.out = s.out := rfl
@[simp] theorem State.recordLength_tmrLoad (s : State) : s.recordLength.tmrLoad = s.tmrLoad := rfl
@[simp] theorem State.recordLength_mcStep (s : State) : s.recordLength.mcStep = s.mcStep := rfl
@[simp] theorem State.recordLength_swlatch (s : State) : s.recordLength.swlatch = s.swlatch := rfl
@[simp] theorem State.recordLength_tosnap (s : State) : s.recordLength.tosnap = s.tosnap := rfl
@[simp] theorem State.recordLength_funcol (s : State) : s.recordLength.funcol = s.funcol := rfl
@[simp] theorem State.recordLength_pins (s : State) : s.recordLength.pins = s.pins := rfl
@[simp] theorem State.recordLength_stim (s : State) : s.recordLength.stim = s.stim := rfl
@[simp] theorem State.recordLength_cfg (s : State) : s.recordLength.cfg = s.cfg := rfl
@[simp] theorem State.recordLength_wdtKicks (s : State) : s.recordLength.wdtKicks = s.wdtKicks := rfl
@[simp] theorem State.recordLength_swSetting (s : State) : s.recordLength.swSetting = s.swSetting := rfl

@[simp] theorem State.stageRed_phase (s : State) (d : Byte) : (s.stageRed d).phase = s.phase := rfl
@[simp] theorem State.stageRed_tick (s : State) (d : Byte) : (s.stageRed d).tick = s.tick := rfl
@[simp] theorem State.stageRed_timeout (s : State) (d : Byte) : (s.stageRed d).timeout = s.timeout := rfl
@[simp] theorem State.stageRed_disp (s : State) (d : Byte) : (s.stageRed d).disp = s.disp := rfl
@[simp] theorem State.stageRed_stg (s : State) (d : Byte) : (s.stageRed d).stg = ⟨d, s.stg.g, s.stg.b⟩ := rfl
@[simp] theorem State.stageRed_slot (s : State) (d : Byte) : (s.stageRed d).slot = s.slot := rfl
@[simp] theorem State.stageRed_lastlen (s : State) (d : Byte) : (s.stageRed d).lastlen = s.lastlen := rfl
@[simp] theorem State.stageRed_good (s : State) (d : Byte) : (s.stageRed d).good = s.good := rfl
@[simp] theorem State.stageRed_address (s : State) (d : Byte) : (s.stageRed d).address = s.address := rfl
@[simp] theorem State.stageRed_mode (s : State) (d : Byte) : (s.stageRed d).mode = s.mode := rfl
@[simp] theorem State.stageRed_ieTmr (s : State) (d : Byte) : (s.stageRed d).ieTmr = s.ieTmr := rfl
@[simp] theorem State.stageRed_ieRx (s : State) (d : Byte) : (s.stageRed d).ieRx = s.ieRx := rfl
@[simp] theorem State.stageRed_led (s : State) (d : Byte) : (s.stageRed d).led = s.led := rfl
@[simp] theorem State.stageRed_out (s : State) (d : Byte) : (s.stageRed d).out = s.out := rfl
@[simp] theorem State.stageRed_tmrLoad (s : State) (d : Byte) : (s.stageRed d).tmrLoad = s.tmrLoad := rfl
@[simp] theorem State.stageRed_mcStep (s : State) (d : Byte) : (s.stageRed d).mcStep = s.mcStep := rfl
@[simp] theorem State.stageRed_swlatch (s : State) (d : Byte) : (s.stageRed d).swlatch = s.swlatch := rfl
@[simp] theorem State.stageRed_tosnap (s : State) (d : Byte) : (s.stageRed d).tosnap = s.tosnap := rfl
@[simp] theorem State.stageRed_funcol (s : State) (d : Byte) : (s.stageRed d).funcol = s.funcol := rfl
@[simp] theorem State.stageRed_pins (s : State) (d : Byte) : (s.stageRed d).pins = s.pins := rfl
@[simp] theorem State.stageRed_stim (s : State) (d : Byte) : (s.stageRed d).stim = s.stim := rfl
@[simp] theorem State.stageRed_cfg (s : State) (d : Byte) : (s.stageRed d).cfg = s.cfg := rfl
@[simp] theorem State.stageRed_wdtKicks (s : State) (d : Byte) : (s.stageRed d).wdtKicks = s.wdtKicks := rfl
@[simp] theorem State.stageRed_swSetting (s : State) (d : Byte) : (s.stageRed d).swSetting = s.swSetting := rfl

@[simp] theorem State.stageGreen_phase (s : State) (d : Byte) : (s.stageGreen d).phase = s.phase := rfl
@[simp] theorem State.stageGreen_tick (s : State) (d : Byte) : (s.stageGreen d).tick = s.tick := rfl
@[simp] theorem State.stageGreen_timeout (s : State) (d : Byte) : (s.stageGreen d).timeout = s.timeout := rfl
@[simp] theorem State.stageGreen_disp (s : State) (d : Byte) : (s.stageGreen d).disp = s.disp := rfl
@[simp] theorem State.stageGreen_stg (s : State) (d : Byte) : (s.stageGreen d).stg = ⟨s.stg.r, d, s.stg.b⟩ := rfl
@[simp] theorem State.stageGreen_slot (s : State) (d : Byte) : (s.stageGreen d).slot = s.slot := rfl
@[simp] theorem State.stageGreen_lastlen (s : State) (d : Byte) : (s.stageGreen d).lastlen = s.lastlen := rfl
@[simp] theorem State.stageGreen_good (s : State) (d : Byte) : (s.stageGreen d).good = s.good := rfl
@[simp] theorem State.stageGreen_address (s : State) (d : Byte) : (s.stageGreen d).address = s.address := rfl
@[simp] theorem State.stageGreen_mode (s : State) (d : Byte) : (s.stageGreen d).mode = s.mode := rfl
@[simp] theorem State.stageGreen_ieTmr (s : State) (d : Byte) : (s.stageGreen d).ieTmr = s.ieTmr := rfl
@[simp] theorem State.stageGreen_ieRx (s : State) (d : Byte) : (s.stageGreen d).ieRx = s.ieRx := rfl
@[simp] theorem State.stageGreen_led (s : State) (d : Byte) : (s.stageGreen d).led = s.led := rfl
@[simp] theorem State.stageGreen_out (s : State) (d : Byte) : (s.stageGreen d).out = s.out := rfl
@[simp] theorem State.stageGreen_tmrLoad (s : State) (d : Byte) : (s.stageGreen d).tmrLoad = s.tmrLoad := rfl
@[simp] theorem State.stageGreen_mcStep (s : State) (d : Byte) : (s.stageGreen d).mcStep = s.mcStep := rfl
@[simp] theorem State.stageGreen_swlatch (s : State) (d : Byte) : (s.stageGreen d).swlatch = s.swlatch := rfl
@[simp] theorem State.stageGreen_tosnap (s : State) (d : Byte) : (s.stageGreen d).tosnap = s.tosnap := rfl
@[simp] theorem State.stageGreen_funcol (s : State) (d : Byte) : (s.stageGreen d).funcol = s.funcol := rfl
@[simp] theorem State.stageGreen_pins (s : State) (d : Byte) : (s.stageGreen d).pins = s.pins := rfl
@[simp] theorem State.stageGreen_stim (s : State) (d : Byte) : (s.stageGreen d).stim = s.stim := rfl
@[simp] theorem State.stageGreen_cfg (s : State) (d : Byte) : (s.stageGreen d).cfg = s.cfg := rfl
@[simp] theorem State.stageGreen_wdtKicks (s : State) (d : Byte) : (s.stageGreen d).wdtKicks = s.wdtKicks := rfl
@[simp] theorem State.stageGreen_swSetting (s : State) (d : Byte) : (s.stageGreen d).swSetting = s.swSetting := rfl

@[simp] theorem State.stageBlue_phase (s : State) (d : Byte) : (s.stageBlue d).phase = s.phase := rfl
@[simp] theorem State.stageBlue_tick (s : State) (d : Byte) : (s.stageBlue d).tick = s.tick := rfl
@[simp] theorem State.stageBlue_timeout (s : State) (d : Byte) : (s.stageBlue d).timeout = s.timeout := rfl
@[simp] theorem State.stageBlue_disp (s : State) (d : Byte) : (s.stageBlue d).disp = s.disp := rfl
@[simp] theorem State.stageBlue_stg (s : State) (d : Byte) : (s.stageBlue d).stg = ⟨s.stg.r, s.stg.g, d⟩ := rfl
@[simp] theorem State.stageBlue_slot (s : State) (d : Byte) : (s.stageBlue d).slot = s.slot := rfl
@[simp] theorem State.stageBlue_lastlen (s : State) (d : Byte) : (s.stageBlue d).lastlen = s.lastlen := rfl
@[simp] theorem State.stageBlue_good (s : State) (d : Byte) : (s.stageBlue d).good = s.good := rfl
@[simp] theorem State.stageBlue_address (s : State) (d : Byte) : (s.stageBlue d).address = s.address := rfl
@[simp] theorem State.stageBlue_mode (s : State) (d : Byte) : (s.stageBlue d).mode = s.mode := rfl
@[simp] theorem State.stageBlue_ieTmr (s : State) (d : Byte) : (s.stageBlue d).ieTmr = s.ieTmr := rfl
@[simp] theorem State.stageBlue_ieRx (s : State) (d : Byte) : (s.stageBlue d).ieRx = s.ieRx := rfl
@[simp] theorem State.stageBlue_led (s : State) (d : Byte) : (s.stageBlue d).led = s.led := rfl
@[simp] theorem State.stageBlue_out (s : State) (d : Byte) : (s.stageBlue d).out = s.out := rfl
@[simp] theorem State.stageBlue_tmrLoad (s : State) (d : Byte) : (s.stageBlue d).tmrLoad = s.tmrLoad := rfl
@[simp] theorem State.stageBlue_mcStep (s : State) (d : Byte) : (s.stageBlue d).mcStep = s.mcStep := rfl
@[simp] theorem State.stageBlue_swlatch (s : State) (d : Byte) : (s.stageBlue d).swlatch = s.swlatch := rfl
@[simp] theorem State.stageBlue_tosnap (s : State) (d : Byte) : (s.stageBlue d).tosnap = s.tosnap := rfl
@[simp] theorem State.stageBlue_funcol (s : State) (d : Byte) : (s.stageBlue d).funcol = s.funcol := rfl
@[simp] theorem State.stageBlue_pins (s : State) (d : Byte) : (s.stageBlue d).pins = s.pins := rfl
@[simp] theorem State.stageBlue_stim (s : State) (d : Byte) : (s.stageBlue d).stim = s.stim := rfl
@[simp] theorem State.stageBlue_cfg (s : State) (d : Byte) : (s.stageBlue d).cfg = s.cfg := rfl
@[simp] theorem State.stageBlue_wdtKicks (s : State) (d : Byte) : (s.stageBlue d).wdtKicks = s.wdtKicks := rfl
@[simp] theorem State.stageBlue_swSetting (s : State) (d : Byte) : (s.stageBlue d).swSetting = s.swSetting := rfl

@[simp] theorem State.commit_phase (s : State) : s.commit.phase = s.phase := rfl
@[simp] theorem State.commit_tick (s : State) : s.commit.tick = s.tick := rfl
@[simp] theorem State.commit_timeout (s : State) : s.commit.timeout = 0 := rfl
@[simp] theorem State.commit_disp (s : State) : s.commit.disp = s.stg := rfl
@[simp] theorem State.commit_stg (s : State) : s.commit.stg = s.stg := rfl
@[simp] theorem State.commit_slot (s : State) : s.commit.slot = s.slot := rfl
@[simp] theorem State.commit_lastlen (s : State) : s.commit.lastlen = s.lastlen := rfl
@[simp] theorem State.commit_good (s : State) : s.commit.good = s.good := rfl
@[simp] theorem State.commit_address (s : State) : s.commit.address = s.address := rfl
@[simp] theorem State.commit_mode (s : State) : s.commit.mode = s.mode := rfl
@[simp] theorem State.commit_ieTmr (s : State) : s.commit.ieTmr = s.ieTmr := rfl
@[simp] theorem State.commit_ieRx (s : State) : s.commit.ieRx = s.ieRx := rfl
@[simp] theorem State.commit_led (s : State) : s.commit.led = s.led := rfl
@[simp] theorem State.commit_out (s : State) : s.commit.out = s.out := rfl
@[simp] theorem State.commit_tmrLoad (s : State) : s.commit.tmrLoad = s.tmrLoad := rfl
@[simp] theorem State.commit_mcStep (s : State) : s.commit.mcStep = s.mcStep := rfl
@[simp] theorem State.commit_swlatch (s : State) : s.commit.swlatch = s.swlatch := rfl
@[simp] theorem State.commit_tosnap (s : State) : s.commit.tosnap = s.tosnap := rfl
@[simp] theorem State.commit_funcol (s : State) : s.commit.funcol = s.funcol := rfl
@[simp] theorem State.commit_pins (s : State) : s.commit.pins = s.pins := rfl
@[simp] theorem State.commit_stim (s : State) : s.commit.stim = s.stim := rfl
@[simp] theorem State.commit_cfg (s : State) : s.commit.cfg = s.cfg := rfl
@[simp] theorem State.commit_wdtKicks (s : State) : s.commit.wdtKicks = s.wdtKicks := rfl
@[simp] theorem State.commit_swSetting (s : State) : s.commit.swSetting = s.swSetting := rfl

@[simp] theorem State.rearm_phase (s : State) : s.rearm.phase = s.phase := rfl
@[simp] theorem State.rearm_tick (s : State) : s.rearm.tick = s.tick := rfl
@[simp] theorem State.rearm_timeout (s : State) : s.rearm.timeout = s.timeout := rfl
@[simp] theorem State.rearm_disp (s : State) : s.rearm.disp = s.disp := rfl
@[simp] theorem State.rearm_stg (s : State) : s.rearm.stg = Colour.black := rfl
@[simp] theorem State.rearm_slot (s : State) : s.rearm.slot = 0 := rfl
@[simp] theorem State.rearm_lastlen (s : State) : s.rearm.lastlen = s.lastlen := rfl
@[simp] theorem State.rearm_good (s : State) : s.rearm.good = true := rfl
@[simp] theorem State.rearm_address (s : State) : s.rearm.address = s.address := rfl
@[simp] theorem State.rearm_mode (s : State) : s.rearm.mode = s.mode := rfl
@[simp] theorem State.rearm_ieTmr (s : State) : s.rearm.ieTmr = s.ieTmr := rfl
@[simp] theorem State.rearm_ieRx (s : State) : s.rearm.ieRx = s.ieRx := rfl
@[simp] theorem State.rearm_led (s : State) : s.rearm.led = s.led := rfl
@[simp] theorem State.rearm_out (s : State) : s.rearm.out = s.out := rfl
@[simp] theorem State.rearm_tmrLoad (s : State) : s.rearm.tmrLoad = s.tmrLoad := rfl
@[simp] theorem State.rearm_mcStep (s : State) : s.rearm.mcStep = s.mcStep := rfl
@[simp] theorem State.rearm_swlatch (s : State) : s.rearm.swlatch = s.swlatch := rfl
@[simp] theorem State.rearm_tosnap (s : State) : s.rearm.tosnap = s.tosnap := rfl
@[simp] theorem State.rearm_funcol (s : State) : s.rearm.funcol = s.funcol := rfl
@[simp] theorem State.rearm_pins (s : State) : s.rearm.pins = s.pins := rfl
@[simp] theorem State.rearm_stim (s : State) : s.rearm.stim = s.stim := rfl
@[simp] theorem State.rearm_cfg (s : State) : s.rearm.cfg = s.cfg := rfl
@[simp] theorem State.rearm_wdtKicks (s : State) : s.rearm.wdtKicks = s.wdtKicks := rfl
@[simp] theorem State.rearm_swSetting (s : State) : s.rearm.swSetting = s.swSetting := rfl

@[simp] theorem State.kick_phase (s : State) : s.kick.phase = s.phase := rfl
@[simp] theorem State.kick_tick (s : State) : s.kick.tick = s.tick := rfl
@[simp] theorem State.kick_timeout (s : State) : s.kick.timeout = s.timeout := rfl
@[simp] theorem State.kick_disp (s : State) : s.kick.disp = s.disp := rfl
@[simp] theorem State.kick_stg (s : State) : s.kick.stg = s.stg := rfl
@[simp] theorem State.kick_slot (s : State) : s.kick.slot = s.slot := rfl
@[simp] theorem State.kick_lastlen (s : State) : s.kick.lastlen = s.lastlen := rfl
@[simp] theorem State.kick_good (s : State) : s.kick.good = s.good := rfl
@[simp] theorem State.kick_address (s : State) : s.kick.address = s.address := rfl
@[simp] theorem State.kick_mode (s : State) : s.kick.mode = s.mode := rfl
@[simp] theorem State.kick_ieTmr (s : State) : s.kick.ieTmr = s.ieTmr := rfl
@[simp] theorem State.kick_ieRx (s : State) : s.kick.ieRx = s.ieRx := rfl
@[simp] theorem State.kick_led (s : State) : s.kick.led = s.led := rfl
@[simp] theorem State.kick_out (s : State) : s.kick.out = s.out := rfl
@[simp] theorem State.kick_tmrLoad (s : State) : s.kick.tmrLoad = s.tmrLoad := rfl
@[simp] theorem State.kick_mcStep (s : State) : s.kick.mcStep = s.mcStep := rfl
@[simp] theorem State.kick_swlatch (s : State) : s.kick.swlatch = s.swlatch := rfl
@[simp] theorem State.kick_tosnap (s : State) : s.kick.tosnap = s.tosnap := rfl
@[simp] theorem State.kick_funcol (s : State) : s.kick.funcol = s.funcol := rfl
@[simp] theorem State.kick_pins (s : State) : s.kick.pins = s.pins := rfl
@[simp] theorem State.kick_stim (s : State) : s.kick.stim = s.stim := rfl
@[simp] theorem State.kick_cfg (s : State) : s.kick.cfg = s.cfg := rfl
@[simp] theorem State.kick_wdtKicks (s : State) : s.kick.wdtKicks = s.wdtKicks + 1 := rfl
@[simp] theorem State.kick_swSetting (s : State) : s.kick.swSetting = s.swSetting := rfl

@[simp] theorem State.sampleSwitches_phase (s : State) : s.sampleSwitches.phase = s.phase := rfl
@[simp] theorem State.sampleSwitches_tick (s : State) : s.sampleSwitches.tick = s.tick := rfl
@[simp] theorem State.sampleSwitches_timeout (s : State) : s.sampleSwitches.timeout = s.timeout := rfl
@[simp] theorem State.sampleSwitches_disp (s : State) : s.sampleSwitches.disp = s.disp := rfl
@[simp] theorem State.sampleSwitches_stg (s : State) : s.sampleSwitches.stg = s.stg := rfl
@[simp] theorem State.sampleSwitches_slot (s : State) : s.sampleSwitches.slot = s.slot := rfl
@[simp] theorem State.sampleSwitches_lastlen (s : State) : s.sampleSwitches.lastlen = s.lastlen := rfl
@[simp] theorem State.sampleSwitches_good (s : State) : s.sampleSwitches.good = s.good := rfl
@[simp] theorem State.sampleSwitches_address (s : State) : s.sampleSwitches.address = s.address := rfl
@[simp] theorem State.sampleSwitches_mode (s : State) : s.sampleSwitches.mode = s.mode := rfl
@[simp] theorem State.sampleSwitches_ieTmr (s : State) : s.sampleSwitches.ieTmr = s.ieTmr := rfl
@[simp] theorem State.sampleSwitches_ieRx (s : State) : s.sampleSwitches.ieRx = s.ieRx := rfl
@[simp] theorem State.sampleSwitches_led (s : State) : s.sampleSwitches.led = s.led := rfl
@[simp] theorem State.sampleSwitches_out (s : State) : s.sampleSwitches.out = s.out := rfl
@[simp] theorem State.sampleSwitches_tmrLoad (s : State) : s.sampleSwitches.tmrLoad = s.tmrLoad := rfl
@[simp] theorem State.sampleSwitches_mcStep (s : State) : s.sampleSwitches.mcStep = s.mcStep := rfl
@[simp] theorem State.sampleSwitches_swlatch (s : State) : s.sampleSwitches.swlatch = s.pins := rfl
@[simp] theorem State.sampleSwitches_tosnap (s : State) : s.sampleSwitches.tosnap = s.tosnap := rfl
@[simp] theorem State.sampleSwitches_funcol (s : State) : s.sampleSwitches.funcol = s.funcol := rfl
@[simp] theorem State.sampleSwitches_pins (s : State) : s.sampleSwitches.pins = s.pins := rfl
@[simp] theorem State.sampleSwitches_stim (s : State) : s.sampleSwitches.stim = s.stim := rfl
@[simp] theorem State.sampleSwitches_cfg (s : State) : s.sampleSwitches.cfg = s.cfg := rfl
@[simp] theorem State.sampleSwitches_wdtKicks (s : State) : s.sampleSwitches.wdtKicks = s.wdtKicks := rfl
@[simp] theorem State.sampleSwitches_swSetting (s : State) : s.sampleSwitches.swSetting = s.swSetting := rfl

@[simp] theorem State.decodeSwitches_phase (s : State) (w : BitVec 10) : (s.decodeSwitches w).phase = s.phase := rfl
@[simp] theorem State.decodeSwitches_tick (s : State) (w : BitVec 10) : (s.decodeSwitches w).tick = s.tick := rfl
@[simp] theorem State.decodeSwitches_timeout (s : State) (w : BitVec 10) : (s.decodeSwitches w).timeout = s.timeout := rfl
@[simp] theorem State.decodeSwitches_disp (s : State) (w : BitVec 10) : (s.decodeSwitches w).disp = s.disp := rfl
@[simp] theorem State.decodeSwitches_stg (s : State) (w : BitVec 10) : (s.decodeSwitches w).stg = s.stg := rfl
@[simp] theorem State.decodeSwitches_slot (s : State) (w : BitVec 10) : (s.decodeSwitches w).slot = s.slot := rfl
@[simp] theorem State.decodeSwitches_lastlen (s : State) (w : BitVec 10) : (s.decodeSwitches w).lastlen = s.lastlen := rfl
@[simp] theorem State.decodeSwitches_good (s : State) (w : BitVec 10) : (s.decodeSwitches w).good = s.good := rfl
@[simp] theorem State.decodeSwitches_address (s : State) (w : BitVec 10) : (s.decodeSwitches w).address = s.address := rfl
@[simp] theorem State.decodeSwitches_mode (s : State) (w : BitVec 10) : (s.decodeSwitches w).mode = s.mode := rfl
@[simp] theorem State.decodeSwitches_ieTmr (s : State) (w : BitVec 10) : (s.decodeSwitches w).ieTmr = s.ieTmr := rfl
@[simp] theorem State.decodeSwitches_ieRx (s : State) (w : BitVec 10) : (s.decodeSwitches w).ieRx = s.ieRx := rfl
@[simp] theorem State.decodeSwitches_led (s : State) (w : BitVec 10) : (s.decodeSwitches w).led = s.led := rfl
@[simp] theorem State.decodeSwitches_out (s : State) (w : BitVec 10) : (s.decodeSwitches w).out = s.out := rfl
@[simp] theorem State.decodeSwitches_tmrLoad (s : State) (w : BitVec 10) : (s.decodeSwitches w).tmrLoad = s.tmrLoad := rfl
@[simp] theorem State.decodeSwitches_mcStep (s : State) (w : BitVec 10) : (s.decodeSwitches w).mcStep = s.mcStep := rfl
@[simp] theorem State.decodeSwitches_swlatch (s : State) (w : BitVec 10) : (s.decodeSwitches w).swlatch = s.swlatch := rfl
@[simp] theorem State.decodeSwitches_tosnap (s : State) (w : BitVec 10) : (s.decodeSwitches w).tosnap = s.tosnap := rfl
@[simp] theorem State.decodeSwitches_funcol (s : State) (w : BitVec 10) : (s.decodeSwitches w).funcol = s.funcol := rfl
@[simp] theorem State.decodeSwitches_pins (s : State) (w : BitVec 10) : (s.decodeSwitches w).pins = s.pins := rfl
@[simp] theorem State.decodeSwitches_stim (s : State) (w : BitVec 10) : (s.decodeSwitches w).stim = s.stim := rfl
@[simp] theorem State.decodeSwitches_cfg (s : State) (w : BitVec 10) : (s.decodeSwitches w).cfg = s.cfg := rfl
@[simp] theorem State.decodeSwitches_wdtKicks (s : State) (w : BitVec 10) : (s.decodeSwitches w).wdtKicks = s.wdtKicks := rfl
@[simp] theorem State.decodeSwitches_swSetting (s : State) (w : BitVec 10) : (s.decodeSwitches w).swSetting = switchDecode s.cfg w := rfl

@[simp] theorem State.writeMode_phase (s : State) : s.writeMode.phase = s.phase := rfl
@[simp] theorem State.writeMode_tick (s : State) : s.writeMode.tick = s.tick := rfl
@[simp] theorem State.writeMode_timeout (s : State) : s.writeMode.timeout = s.timeout := rfl
@[simp] theorem State.writeMode_disp (s : State) : s.writeMode.disp = s.disp := rfl
@[simp] theorem State.writeMode_stg (s : State) : s.writeMode.stg = s.stg := rfl
@[simp] theorem State.writeMode_slot (s : State) : s.writeMode.slot = s.slot := rfl
@[simp] theorem State.writeMode_lastlen (s : State) : s.writeMode.lastlen = s.lastlen := rfl
@[simp] theorem State.writeMode_good (s : State) : s.writeMode.good = s.good := rfl
@[simp] theorem State.writeMode_address (s : State) : s.writeMode.address = s.address := rfl
@[simp] theorem State.writeMode_mode (s : State) : s.writeMode.mode = s.swSetting.mode := rfl
@[simp] theorem State.writeMode_ieTmr (s : State) : s.writeMode.ieTmr = s.ieTmr := rfl
@[simp] theorem State.writeMode_ieRx (s : State) : s.writeMode.ieRx = s.ieRx := rfl
@[simp] theorem State.writeMode_led (s : State) : s.writeMode.led = s.led := rfl
@[simp] theorem State.writeMode_out (s : State) : s.writeMode.out = s.out := rfl
@[simp] theorem State.writeMode_tmrLoad (s : State) : s.writeMode.tmrLoad = s.tmrLoad := rfl
@[simp] theorem State.writeMode_mcStep (s : State) : s.writeMode.mcStep = s.mcStep := rfl
@[simp] theorem State.writeMode_swlatch (s : State) : s.writeMode.swlatch = s.swlatch := rfl
@[simp] theorem State.writeMode_tosnap (s : State) : s.writeMode.tosnap = s.tosnap := rfl
@[simp] theorem State.writeMode_funcol (s : State) : s.writeMode.funcol = s.funcol := rfl
@[simp] theorem State.writeMode_pins (s : State) : s.writeMode.pins = s.pins := rfl
@[simp] theorem State.writeMode_stim (s : State) : s.writeMode.stim = s.stim := rfl
@[simp] theorem State.writeMode_cfg (s : State) : s.writeMode.cfg = s.cfg := rfl
@[simp] theorem State.writeMode_wdtKicks (s : State) : s.writeMode.wdtKicks = s.wdtKicks := rfl
@[simp] theorem State.writeMode_swSetting (s : State) : s.writeMode.swSetting = s.swSetting := rfl

@[simp] theorem State.writeAddressPiece_phase (s : State) (p : Piece) : (s.writeAddressPiece p).phase = s.phase := rfl
@[simp] theorem State.writeAddressPiece_tick (s : State) (p : Piece) : (s.writeAddressPiece p).tick = s.tick := rfl
@[simp] theorem State.writeAddressPiece_timeout (s : State) (p : Piece) : (s.writeAddressPiece p).timeout = s.timeout := rfl
@[simp] theorem State.writeAddressPiece_disp (s : State) (p : Piece) : (s.writeAddressPiece p).disp = s.disp := rfl
@[simp] theorem State.writeAddressPiece_stg (s : State) (p : Piece) : (s.writeAddressPiece p).stg = s.stg := rfl
@[simp] theorem State.writeAddressPiece_slot (s : State) (p : Piece) : (s.writeAddressPiece p).slot = s.slot := rfl
@[simp] theorem State.writeAddressPiece_lastlen (s : State) (p : Piece) : (s.writeAddressPiece p).lastlen = s.lastlen := rfl
@[simp] theorem State.writeAddressPiece_good (s : State) (p : Piece) : (s.writeAddressPiece p).good = s.good := rfl
@[simp] theorem State.writeAddressPiece_address (s : State) (p : Piece) : (s.writeAddressPiece p).address = replaceAddressPiece p s.address s.swSetting.address := rfl
@[simp] theorem State.writeAddressPiece_mode (s : State) (p : Piece) : (s.writeAddressPiece p).mode = s.mode := rfl
@[simp] theorem State.writeAddressPiece_ieTmr (s : State) (p : Piece) : (s.writeAddressPiece p).ieTmr = s.ieTmr := rfl
@[simp] theorem State.writeAddressPiece_ieRx (s : State) (p : Piece) : (s.writeAddressPiece p).ieRx = s.ieRx := rfl
@[simp] theorem State.writeAddressPiece_led (s : State) (p : Piece) : (s.writeAddressPiece p).led = s.led := rfl
@[simp] theorem State.writeAddressPiece_out (s : State) (p : Piece) : (s.writeAddressPiece p).out = s.out := rfl
@[simp] theorem State.writeAddressPiece_tmrLoad (s : State) (p : Piece) : (s.writeAddressPiece p).tmrLoad = s.tmrLoad := rfl
@[simp] theorem State.writeAddressPiece_mcStep (s : State) (p : Piece) : (s.writeAddressPiece p).mcStep = s.mcStep := rfl
@[simp] theorem State.writeAddressPiece_swlatch (s : State) (p : Piece) : (s.writeAddressPiece p).swlatch = s.swlatch := rfl
@[simp] theorem State.writeAddressPiece_tosnap (s : State) (p : Piece) : (s.writeAddressPiece p).tosnap = s.tosnap := rfl
@[simp] theorem State.writeAddressPiece_funcol (s : State) (p : Piece) : (s.writeAddressPiece p).funcol = s.funcol := rfl
@[simp] theorem State.writeAddressPiece_pins (s : State) (p : Piece) : (s.writeAddressPiece p).pins = s.pins := rfl
@[simp] theorem State.writeAddressPiece_stim (s : State) (p : Piece) : (s.writeAddressPiece p).stim = s.stim := rfl
@[simp] theorem State.writeAddressPiece_cfg (s : State) (p : Piece) : (s.writeAddressPiece p).cfg = s.cfg := rfl
@[simp] theorem State.writeAddressPiece_wdtKicks (s : State) (p : Piece) : (s.writeAddressPiece p).wdtKicks = s.wdtKicks := rfl
@[simp] theorem State.writeAddressPiece_swSetting (s : State) (p : Piece) : (s.writeAddressPiece p).swSetting = s.swSetting := rfl

@[simp] theorem State.enableTmr_phase (s : State) : s.enableTmr.phase = s.phase := rfl
@[simp] theorem State.enableTmr_tick (s : State) : s.enableTmr.tick = s.tick := rfl
@[simp] theorem State.enableTmr_timeout (s : State) : s.enableTmr.timeout = s.timeout := rfl
@[simp] theorem State.enableTmr_disp (s : State) : s.enableTmr.disp = s.disp := rfl
@[simp] theorem State.enableTmr_stg (s : State) : s.enableTmr.stg = s.stg := rfl
@[simp] theorem State.enableTmr_slot (s : State) : s.enableTmr.slot = s.slot := rfl
@[simp] theorem State.enableTmr_lastlen (s : State) : s.enableTmr.lastlen = s.lastlen := rfl
@[simp] theorem State.enableTmr_good (s : State) : s.enableTmr.good = s.good := rfl
@[simp] theorem State.enableTmr_address (s : State) : s.enableTmr.address = s.address := rfl
@[simp] theorem State.enableTmr_mode (s : State) : s.enableTmr.mode = s.mode := rfl
@[simp] theorem State.enableTmr_ieTmr (s : State) : s.enableTmr.ieTmr = true := rfl
@[simp] theorem State.enableTmr_ieRx (s : State) : s.enableTmr.ieRx = s.ieRx := rfl
@[simp] theorem State.enableTmr_led (s : State) : s.enableTmr.led = s.led := rfl
@[simp] theorem State.enableTmr_out (s : State) : s.enableTmr.out = s.out := rfl
@[simp] theorem State.enableTmr_tmrLoad (s : State) : s.enableTmr.tmrLoad = s.tmrLoad := rfl
@[simp] theorem State.enableTmr_mcStep (s : State) : s.enableTmr.mcStep = s.mcStep := rfl
@[simp] theorem State.enableTmr_swlatch (s : State) : s.enableTmr.swlatch = s.swlatch := rfl
@[simp] theorem State.enableTmr_tosnap (s : State) : s.enableTmr.tosnap = s.tosnap := rfl
@[simp] theorem State.enableTmr_funcol (s : State) : s.enableTmr.funcol = s.funcol := rfl
@[simp] theorem State.enableTmr_pins (s : State) : s.enableTmr.pins = s.pins := rfl
@[simp] theorem State.enableTmr_stim (s : State) : s.enableTmr.stim = s.stim := rfl
@[simp] theorem State.enableTmr_cfg (s : State) : s.enableTmr.cfg = s.cfg := rfl
@[simp] theorem State.enableTmr_wdtKicks (s : State) : s.enableTmr.wdtKicks = s.wdtKicks := rfl
@[simp] theorem State.enableTmr_swSetting (s : State) : s.enableTmr.swSetting = s.swSetting := rfl

@[simp] theorem State.setIeRx_phase (s : State) (v : Bool) : (s.setIeRx v).phase = s.phase := rfl
@[simp] theorem State.setIeRx_tick (s : State) (v : Bool) : (s.setIeRx v).tick = s.tick := rfl
@[simp] theorem State.setIeRx_timeout (s : State) (v : Bool) : (s.setIeRx v).timeout = s.timeout := rfl
@[simp] theorem State.setIeRx_disp (s : State) (v : Bool) : (s.setIeRx v).disp = s.disp := rfl
@[simp] theorem State.setIeRx_stg (s : State) (v : Bool) : (s.setIeRx v).stg = s.stg := rfl
@[simp] theorem State.setIeRx_slot (s : State) (v : Bool) : (s.setIeRx v).slot = s.slot := rfl
@[simp] theorem State.setIeRx_lastlen (s : State) (v : Bool) : (s.setIeRx v).lastlen = s.lastlen := rfl
@[simp] theorem State.setIeRx_good (s : State) (v : Bool) : (s.setIeRx v).good = s.good := rfl
@[simp] theorem State.setIeRx_address (s : State) (v : Bool) : (s.setIeRx v).address = s.address := rfl
@[simp] theorem State.setIeRx_mode (s : State) (v : Bool) : (s.setIeRx v).mode = s.mode := rfl
@[simp] theorem State.setIeRx_ieTmr (s : State) (v : Bool) : (s.setIeRx v).ieTmr = s.ieTmr := rfl
@[simp] theorem State.setIeRx_ieRx (s : State) (v : Bool) : (s.setIeRx v).ieRx = v := rfl
@[simp] theorem State.setIeRx_led (s : State) (v : Bool) : (s.setIeRx v).led = s.led := rfl
@[simp] theorem State.setIeRx_out (s : State) (v : Bool) : (s.setIeRx v).out = s.out := rfl
@[simp] theorem State.setIeRx_tmrLoad (s : State) (v : Bool) : (s.setIeRx v).tmrLoad = s.tmrLoad := rfl
@[simp] theorem State.setIeRx_mcStep (s : State) (v : Bool) : (s.setIeRx v).mcStep = s.mcStep := rfl
@[simp] theorem State.setIeRx_swlatch (s : State) (v : Bool) : (s.setIeRx v).swlatch = s.swlatch := rfl
@[simp] theorem State.setIeRx_tosnap (s : State) (v : Bool) : (s.setIeRx v).tosnap = s.tosnap := rfl
@[simp] theorem State.setIeRx_funcol (s : State) (v : Bool) : (s.setIeRx v).funcol = s.funcol := rfl
@[simp] theorem State.setIeRx_pins (s : State) (v : Bool) : (s.setIeRx v).pins = s.pins := rfl
@[simp] theorem State.setIeRx_stim (s : State) (v : Bool) : (s.setIeRx v).stim = s.stim := rfl
@[simp] theorem State.setIeRx_cfg (s : State) (v : Bool) : (s.setIeRx v).cfg = s.cfg := rfl
@[simp] theorem State.setIeRx_wdtKicks (s : State) (v : Bool) : (s.setIeRx v).wdtKicks = s.wdtKicks := rfl
@[simp] theorem State.setIeRx_swSetting (s : State) (v : Bool) : (s.setIeRx v).swSetting = s.swSetting := rfl

@[simp] theorem State.snapTimeoutPiece_phase (s : State) (p : Piece) : (s.snapTimeoutPiece p).phase = s.phase := rfl
@[simp] theorem State.snapTimeoutPiece_tick (s : State) (p : Piece) : (s.snapTimeoutPiece p).tick = s.tick := rfl
@[simp] theorem State.snapTimeoutPiece_timeout (s : State) (p : Piece) : (s.snapTimeoutPiece p).timeout = s.timeout := rfl
@[simp] theorem State.snapTimeoutPiece_disp (s : State) (p : Piece) : (s.snapTimeoutPiece p).disp = s.disp := rfl
@[simp] theorem State.snapTimeoutPiece_stg (s : State) (p : Piece) : (s.snapTimeoutPiece p).stg = s.stg := rfl
@[simp] theorem State.snapTimeoutPiece_slot (s : State) (p : Piece) : (s.snapTimeoutPiece p).slot = s.slot := rfl
@[simp] theorem State.snapTimeoutPiece_lastlen (s : State) (p : Piece) : (s.snapTimeoutPiece p).lastlen = s.lastlen := rfl
@[simp] theorem State.snapTimeoutPiece_good (s : State) (p : Piece) : (s.snapTimeoutPiece p).good = s.good := rfl
@[simp] theorem State.snapTimeoutPiece_address (s : State) (p : Piece) : (s.snapTimeoutPiece p).address = s.address := rfl
@[simp] theorem State.snapTimeoutPiece_mode (s : State) (p : Piece) : (s.snapTimeoutPiece p).mode = s.mode := rfl
@[simp] theorem State.snapTimeoutPiece_ieTmr (s : State) (p : Piece) : (s.snapTimeoutPiece p).ieTmr = s.ieTmr := rfl
@[simp] theorem State.snapTimeoutPiece_ieRx (s : State) (p : Piece) : (s.snapTimeoutPiece p).ieRx = s.ieRx := rfl
@[simp] theorem State.snapTimeoutPiece_led (s : State) (p : Piece) : (s.snapTimeoutPiece p).led = s.led := rfl
@[simp] theorem State.snapTimeoutPiece_out (s : State) (p : Piece) : (s.snapTimeoutPiece p).out = s.out := rfl
@[simp] theorem State.snapTimeoutPiece_tmrLoad (s : State) (p : Piece) : (s.snapTimeoutPiece p).tmrLoad = s.tmrLoad := rfl
@[simp] theorem State.snapTimeoutPiece_mcStep (s : State) (p : Piece) : (s.snapTimeoutPiece p).mcStep = s.mcStep := rfl
@[simp] theorem State.snapTimeoutPiece_swlatch (s : State) (p : Piece) : (s.snapTimeoutPiece p).swlatch = s.swlatch := rfl
@[simp] theorem State.snapTimeoutPiece_tosnap (s : State) (p : Piece) : (s.snapTimeoutPiece p).tosnap = replacePiece p s.tosnap s.timeout := rfl
@[simp] theorem State.snapTimeoutPiece_funcol (s : State) (p : Piece) : (s.snapTimeoutPiece p).funcol = s.funcol := rfl
@[simp] theorem State.snapTimeoutPiece_pins (s : State) (p : Piece) : (s.snapTimeoutPiece p).pins = s.pins := rfl
@[simp] theorem State.snapTimeoutPiece_stim (s : State) (p : Piece) : (s.snapTimeoutPiece p).stim = s.stim := rfl
@[simp] theorem State.snapTimeoutPiece_cfg (s : State) (p : Piece) : (s.snapTimeoutPiece p).cfg = s.cfg := rfl
@[simp] theorem State.snapTimeoutPiece_wdtKicks (s : State) (p : Piece) : (s.snapTimeoutPiece p).wdtKicks = s.wdtKicks := rfl
@[simp] theorem State.snapTimeoutPiece_swSetting (s : State) (p : Piece) : (s.snapTimeoutPiece p).swSetting = s.swSetting := rfl

@[simp] theorem State.clampTimeoutPiece_phase (s : State) (p : Piece) : (s.clampTimeoutPiece p).phase = s.phase := rfl
@[simp] theorem State.clampTimeoutPiece_tick (s : State) (p : Piece) : (s.clampTimeoutPiece p).tick = s.tick := rfl
@[simp] theorem State.clampTimeoutPiece_timeout (s : State) (p : Piece) : (s.clampTimeoutPiece p).timeout = replacePiece p s.timeout (BitVec.ofNat 16 lossThreshold) := rfl
@[simp] theorem State.clampTimeoutPiece_disp (s : State) (p : Piece) : (s.clampTimeoutPiece p).disp = s.disp := rfl
@[simp] theorem State.clampTimeoutPiece_stg (s : State) (p : Piece) : (s.clampTimeoutPiece p).stg = s.stg := rfl
@[simp] theorem State.clampTimeoutPiece_slot (s : State) (p : Piece) : (s.clampTimeoutPiece p).slot = s.slot := rfl
@[simp] theorem State.clampTimeoutPiece_lastlen (s : State) (p : Piece) : (s.clampTimeoutPiece p).lastlen = s.lastlen := rfl
@[simp] theorem State.clampTimeoutPiece_good (s : State) (p : Piece) : (s.clampTimeoutPiece p).good = s.good := rfl
@[simp] theorem State.clampTimeoutPiece_address (s : State) (p : Piece) : (s.clampTimeoutPiece p).address = s.address := rfl
@[simp] theorem State.clampTimeoutPiece_mode (s : State) (p : Piece) : (s.clampTimeoutPiece p).mode = s.mode := rfl
@[simp] theorem State.clampTimeoutPiece_ieTmr (s : State) (p : Piece) : (s.clampTimeoutPiece p).ieTmr = s.ieTmr := rfl
@[simp] theorem State.clampTimeoutPiece_ieRx (s : State) (p : Piece) : (s.clampTimeoutPiece p).ieRx = s.ieRx := rfl
@[simp] theorem State.clampTimeoutPiece_led (s : State) (p : Piece) : (s.clampTimeoutPiece p).led = s.led := rfl
@[simp] theorem State.clampTimeoutPiece_out (s : State) (p : Piece) : (s.clampTimeoutPiece p).out = s.out := rfl
@[simp] theorem State.clampTimeoutPiece_tmrLoad (s : State) (p : Piece) : (s.clampTimeoutPiece p).tmrLoad = s.tmrLoad := rfl
@[simp] theorem State.clampTimeoutPiece_mcStep (s : State) (p : Piece) : (s.clampTimeoutPiece p).mcStep = s.mcStep := rfl
@[simp] theorem State.clampTimeoutPiece_swlatch (s : State) (p : Piece) : (s.clampTimeoutPiece p).swlatch = s.swlatch := rfl
@[simp] theorem State.clampTimeoutPiece_tosnap (s : State) (p : Piece) : (s.clampTimeoutPiece p).tosnap = s.tosnap := rfl
@[simp] theorem State.clampTimeoutPiece_funcol (s : State) (p : Piece) : (s.clampTimeoutPiece p).funcol = s.funcol := rfl
@[simp] theorem State.clampTimeoutPiece_pins (s : State) (p : Piece) : (s.clampTimeoutPiece p).pins = s.pins := rfl
@[simp] theorem State.clampTimeoutPiece_stim (s : State) (p : Piece) : (s.clampTimeoutPiece p).stim = s.stim := rfl
@[simp] theorem State.clampTimeoutPiece_cfg (s : State) (p : Piece) : (s.clampTimeoutPiece p).cfg = s.cfg := rfl
@[simp] theorem State.clampTimeoutPiece_wdtKicks (s : State) (p : Piece) : (s.clampTimeoutPiece p).wdtKicks = s.wdtKicks := rfl
@[simp] theorem State.clampTimeoutPiece_swSetting (s : State) (p : Piece) : (s.clampTimeoutPiece p).swSetting = s.swSetting := rfl

@[simp] theorem State.setDispRed_phase (s : State) (v : Byte) : (s.setDispRed v).phase = s.phase := rfl
@[simp] theorem State.setDispRed_tick (s : State) (v : Byte) : (s.setDispRed v).tick = s.tick := rfl
@[simp] theorem State.setDispRed_timeout (s : State) (v : Byte) : (s.setDispRed v).timeout = s.timeout := rfl
@[simp] theorem State.setDispRed_disp (s : State) (v : Byte) : (s.setDispRed v).disp = ⟨v, s.disp.g, s.disp.b⟩ := rfl
@[simp] theorem State.setDispRed_stg (s : State) (v : Byte) : (s.setDispRed v).stg = s.stg := rfl
@[simp] theorem State.setDispRed_slot (s : State) (v : Byte) : (s.setDispRed v).slot = s.slot := rfl
@[simp] theorem State.setDispRed_lastlen (s : State) (v : Byte) : (s.setDispRed v).lastlen = s.lastlen := rfl
@[simp] theorem State.setDispRed_good (s : State) (v : Byte) : (s.setDispRed v).good = s.good := rfl
@[simp] theorem State.setDispRed_address (s : State) (v : Byte) : (s.setDispRed v).address = s.address := rfl
@[simp] theorem State.setDispRed_mode (s : State) (v : Byte) : (s.setDispRed v).mode = s.mode := rfl
@[simp] theorem State.setDispRed_ieTmr (s : State) (v : Byte) : (s.setDispRed v).ieTmr = s.ieTmr := rfl
@[simp] theorem State.setDispRed_ieRx (s : State) (v : Byte) : (s.setDispRed v).ieRx = s.ieRx := rfl
@[simp] theorem State.setDispRed_led (s : State) (v : Byte) : (s.setDispRed v).led = s.led := rfl
@[simp] theorem State.setDispRed_out (s : State) (v : Byte) : (s.setDispRed v).out = s.out := rfl
@[simp] theorem State.setDispRed_tmrLoad (s : State) (v : Byte) : (s.setDispRed v).tmrLoad = s.tmrLoad := rfl
@[simp] theorem State.setDispRed_mcStep (s : State) (v : Byte) : (s.setDispRed v).mcStep = s.mcStep := rfl
@[simp] theorem State.setDispRed_swlatch (s : State) (v : Byte) : (s.setDispRed v).swlatch = s.swlatch := rfl
@[simp] theorem State.setDispRed_tosnap (s : State) (v : Byte) : (s.setDispRed v).tosnap = s.tosnap := rfl
@[simp] theorem State.setDispRed_funcol (s : State) (v : Byte) : (s.setDispRed v).funcol = s.funcol := rfl
@[simp] theorem State.setDispRed_pins (s : State) (v : Byte) : (s.setDispRed v).pins = s.pins := rfl
@[simp] theorem State.setDispRed_stim (s : State) (v : Byte) : (s.setDispRed v).stim = s.stim := rfl
@[simp] theorem State.setDispRed_cfg (s : State) (v : Byte) : (s.setDispRed v).cfg = s.cfg := rfl
@[simp] theorem State.setDispRed_wdtKicks (s : State) (v : Byte) : (s.setDispRed v).wdtKicks = s.wdtKicks := rfl
@[simp] theorem State.setDispRed_swSetting (s : State) (v : Byte) : (s.setDispRed v).swSetting = s.swSetting := rfl

@[simp] theorem State.setDispGreen_phase (s : State) (v : Byte) : (s.setDispGreen v).phase = s.phase := rfl
@[simp] theorem State.setDispGreen_tick (s : State) (v : Byte) : (s.setDispGreen v).tick = s.tick := rfl
@[simp] theorem State.setDispGreen_timeout (s : State) (v : Byte) : (s.setDispGreen v).timeout = s.timeout := rfl
@[simp] theorem State.setDispGreen_disp (s : State) (v : Byte) : (s.setDispGreen v).disp = ⟨s.disp.r, v, s.disp.b⟩ := rfl
@[simp] theorem State.setDispGreen_stg (s : State) (v : Byte) : (s.setDispGreen v).stg = s.stg := rfl
@[simp] theorem State.setDispGreen_slot (s : State) (v : Byte) : (s.setDispGreen v).slot = s.slot := rfl
@[simp] theorem State.setDispGreen_lastlen (s : State) (v : Byte) : (s.setDispGreen v).lastlen = s.lastlen := rfl
@[simp] theorem State.setDispGreen_good (s : State) (v : Byte) : (s.setDispGreen v).good = s.good := rfl
@[simp] theorem State.setDispGreen_address (s : State) (v : Byte) : (s.setDispGreen v).address = s.address := rfl
@[simp] theorem State.setDispGreen_mode (s : State) (v : Byte) : (s.setDispGreen v).mode = s.mode := rfl
@[simp] theorem State.setDispGreen_ieTmr (s : State) (v : Byte) : (s.setDispGreen v).ieTmr = s.ieTmr := rfl
@[simp] theorem State.setDispGreen_ieRx (s : State) (v : Byte) : (s.setDispGreen v).ieRx = s.ieRx := rfl
@[simp] theorem State.setDispGreen_led (s : State) (v : Byte) : (s.setDispGreen v).led = s.led := rfl
@[simp] theorem State.setDispGreen_out (s : State) (v : Byte) : (s.setDispGreen v).out = s.out := rfl
@[simp] theorem State.setDispGreen_tmrLoad (s : State) (v : Byte) : (s.setDispGreen v).tmrLoad = s.tmrLoad := rfl
@[simp] theorem State.setDispGreen_mcStep (s : State) (v : Byte) : (s.setDispGreen v).mcStep = s.mcStep := rfl
@[simp] theorem State.setDispGreen_swlatch (s : State) (v : Byte) : (s.setDispGreen v).swlatch = s.swlatch := rfl
@[simp] theorem State.setDispGreen_tosnap (s : State) (v : Byte) : (s.setDispGreen v).tosnap = s.tosnap := rfl
@[simp] theorem State.setDispGreen_funcol (s : State) (v : Byte) : (s.setDispGreen v).funcol = s.funcol := rfl
@[simp] theorem State.setDispGreen_pins (s : State) (v : Byte) : (s.setDispGreen v).pins = s.pins := rfl
@[simp] theorem State.setDispGreen_stim (s : State) (v : Byte) : (s.setDispGreen v).stim = s.stim := rfl
@[simp] theorem State.setDispGreen_cfg (s : State) (v : Byte) : (s.setDispGreen v).cfg = s.cfg := rfl
@[simp] theorem State.setDispGreen_wdtKicks (s : State) (v : Byte) : (s.setDispGreen v).wdtKicks = s.wdtKicks := rfl
@[simp] theorem State.setDispGreen_swSetting (s : State) (v : Byte) : (s.setDispGreen v).swSetting = s.swSetting := rfl

@[simp] theorem State.setDispBlue_phase (s : State) (v : Byte) : (s.setDispBlue v).phase = s.phase := rfl
@[simp] theorem State.setDispBlue_tick (s : State) (v : Byte) : (s.setDispBlue v).tick = s.tick := rfl
@[simp] theorem State.setDispBlue_timeout (s : State) (v : Byte) : (s.setDispBlue v).timeout = s.timeout := rfl
@[simp] theorem State.setDispBlue_disp (s : State) (v : Byte) : (s.setDispBlue v).disp = ⟨s.disp.r, s.disp.g, v⟩ := rfl
@[simp] theorem State.setDispBlue_stg (s : State) (v : Byte) : (s.setDispBlue v).stg = s.stg := rfl
@[simp] theorem State.setDispBlue_slot (s : State) (v : Byte) : (s.setDispBlue v).slot = s.slot := rfl
@[simp] theorem State.setDispBlue_lastlen (s : State) (v : Byte) : (s.setDispBlue v).lastlen = s.lastlen := rfl
@[simp] theorem State.setDispBlue_good (s : State) (v : Byte) : (s.setDispBlue v).good = s.good := rfl
@[simp] theorem State.setDispBlue_address (s : State) (v : Byte) : (s.setDispBlue v).address = s.address := rfl
@[simp] theorem State.setDispBlue_mode (s : State) (v : Byte) : (s.setDispBlue v).mode = s.mode := rfl
@[simp] theorem State.setDispBlue_ieTmr (s : State) (v : Byte) : (s.setDispBlue v).ieTmr = s.ieTmr := rfl
@[simp] theorem State.setDispBlue_ieRx (s : State) (v : Byte) : (s.setDispBlue v).ieRx = s.ieRx := rfl
@[simp] theorem State.setDispBlue_led (s : State) (v : Byte) : (s.setDispBlue v).led = s.led := rfl
@[simp] theorem State.setDispBlue_out (s : State) (v : Byte) : (s.setDispBlue v).out = s.out := rfl
@[simp] theorem State.setDispBlue_tmrLoad (s : State) (v : Byte) : (s.setDispBlue v).tmrLoad = s.tmrLoad := rfl
@[simp] theorem State.setDispBlue_mcStep (s : State) (v : Byte) : (s.setDispBlue v).mcStep = s.mcStep := rfl
@[simp] theorem State.setDispBlue_swlatch (s : State) (v : Byte) : (s.setDispBlue v).swlatch = s.swlatch := rfl
@[simp] theorem State.setDispBlue_tosnap (s : State) (v : Byte) : (s.setDispBlue v).tosnap = s.tosnap := rfl
@[simp] theorem State.setDispBlue_funcol (s : State) (v : Byte) : (s.setDispBlue v).funcol = s.funcol := rfl
@[simp] theorem State.setDispBlue_pins (s : State) (v : Byte) : (s.setDispBlue v).pins = s.pins := rfl
@[simp] theorem State.setDispBlue_stim (s : State) (v : Byte) : (s.setDispBlue v).stim = s.stim := rfl
@[simp] theorem State.setDispBlue_cfg (s : State) (v : Byte) : (s.setDispBlue v).cfg = s.cfg := rfl
@[simp] theorem State.setDispBlue_wdtKicks (s : State) (v : Byte) : (s.setDispBlue v).wdtKicks = s.wdtKicks := rfl
@[simp] theorem State.setDispBlue_swSetting (s : State) (v : Byte) : (s.setDispBlue v).swSetting = s.swSetting := rfl

@[simp] theorem State.setLed_phase (s : State) (v : Bool) : (s.setLed v).phase = s.phase := rfl
@[simp] theorem State.setLed_tick (s : State) (v : Bool) : (s.setLed v).tick = s.tick := rfl
@[simp] theorem State.setLed_timeout (s : State) (v : Bool) : (s.setLed v).timeout = s.timeout := rfl
@[simp] theorem State.setLed_disp (s : State) (v : Bool) : (s.setLed v).disp = s.disp := rfl
@[simp] theorem State.setLed_stg (s : State) (v : Bool) : (s.setLed v).stg = s.stg := rfl
@[simp] theorem State.setLed_slot (s : State) (v : Bool) : (s.setLed v).slot = s.slot := rfl
@[simp] theorem State.setLed_lastlen (s : State) (v : Bool) : (s.setLed v).lastlen = s.lastlen := rfl
@[simp] theorem State.setLed_good (s : State) (v : Bool) : (s.setLed v).good = s.good := rfl
@[simp] theorem State.setLed_address (s : State) (v : Bool) : (s.setLed v).address = s.address := rfl
@[simp] theorem State.setLed_mode (s : State) (v : Bool) : (s.setLed v).mode = s.mode := rfl
@[simp] theorem State.setLed_ieTmr (s : State) (v : Bool) : (s.setLed v).ieTmr = s.ieTmr := rfl
@[simp] theorem State.setLed_ieRx (s : State) (v : Bool) : (s.setLed v).ieRx = s.ieRx := rfl
@[simp] theorem State.setLed_led (s : State) (v : Bool) : (s.setLed v).led = v := rfl
@[simp] theorem State.setLed_out (s : State) (v : Bool) : (s.setLed v).out = s.out := rfl
@[simp] theorem State.setLed_tmrLoad (s : State) (v : Bool) : (s.setLed v).tmrLoad = s.tmrLoad := rfl
@[simp] theorem State.setLed_mcStep (s : State) (v : Bool) : (s.setLed v).mcStep = s.mcStep := rfl
@[simp] theorem State.setLed_swlatch (s : State) (v : Bool) : (s.setLed v).swlatch = s.swlatch := rfl
@[simp] theorem State.setLed_tosnap (s : State) (v : Bool) : (s.setLed v).tosnap = s.tosnap := rfl
@[simp] theorem State.setLed_funcol (s : State) (v : Bool) : (s.setLed v).funcol = s.funcol := rfl
@[simp] theorem State.setLed_pins (s : State) (v : Bool) : (s.setLed v).pins = s.pins := rfl
@[simp] theorem State.setLed_stim (s : State) (v : Bool) : (s.setLed v).stim = s.stim := rfl
@[simp] theorem State.setLed_cfg (s : State) (v : Bool) : (s.setLed v).cfg = s.cfg := rfl
@[simp] theorem State.setLed_wdtKicks (s : State) (v : Bool) : (s.setLed v).wdtKicks = s.wdtKicks := rfl
@[simp] theorem State.setLed_swSetting (s : State) (v : Bool) : (s.setLed v).swSetting = s.swSetting := rfl

@[simp] theorem State.setFuncol_phase (s : State) (c : Colour) : (s.setFuncol c).phase = s.phase := rfl
@[simp] theorem State.setFuncol_tick (s : State) (c : Colour) : (s.setFuncol c).tick = s.tick := rfl
@[simp] theorem State.setFuncol_timeout (s : State) (c : Colour) : (s.setFuncol c).timeout = s.timeout := rfl
@[simp] theorem State.setFuncol_disp (s : State) (c : Colour) : (s.setFuncol c).disp = s.disp := rfl
@[simp] theorem State.setFuncol_stg (s : State) (c : Colour) : (s.setFuncol c).stg = s.stg := rfl
@[simp] theorem State.setFuncol_slot (s : State) (c : Colour) : (s.setFuncol c).slot = s.slot := rfl
@[simp] theorem State.setFuncol_lastlen (s : State) (c : Colour) : (s.setFuncol c).lastlen = s.lastlen := rfl
@[simp] theorem State.setFuncol_good (s : State) (c : Colour) : (s.setFuncol c).good = s.good := rfl
@[simp] theorem State.setFuncol_address (s : State) (c : Colour) : (s.setFuncol c).address = s.address := rfl
@[simp] theorem State.setFuncol_mode (s : State) (c : Colour) : (s.setFuncol c).mode = s.mode := rfl
@[simp] theorem State.setFuncol_ieTmr (s : State) (c : Colour) : (s.setFuncol c).ieTmr = s.ieTmr := rfl
@[simp] theorem State.setFuncol_ieRx (s : State) (c : Colour) : (s.setFuncol c).ieRx = s.ieRx := rfl
@[simp] theorem State.setFuncol_led (s : State) (c : Colour) : (s.setFuncol c).led = s.led := rfl
@[simp] theorem State.setFuncol_out (s : State) (c : Colour) : (s.setFuncol c).out = s.out := rfl
@[simp] theorem State.setFuncol_tmrLoad (s : State) (c : Colour) : (s.setFuncol c).tmrLoad = s.tmrLoad := rfl
@[simp] theorem State.setFuncol_mcStep (s : State) (c : Colour) : (s.setFuncol c).mcStep = s.mcStep := rfl
@[simp] theorem State.setFuncol_swlatch (s : State) (c : Colour) : (s.setFuncol c).swlatch = s.swlatch := rfl
@[simp] theorem State.setFuncol_tosnap (s : State) (c : Colour) : (s.setFuncol c).tosnap = s.tosnap := rfl
@[simp] theorem State.setFuncol_funcol (s : State) (c : Colour) : (s.setFuncol c).funcol = c := rfl
@[simp] theorem State.setFuncol_pins (s : State) (c : Colour) : (s.setFuncol c).pins = s.pins := rfl
@[simp] theorem State.setFuncol_stim (s : State) (c : Colour) : (s.setFuncol c).stim = s.stim := rfl
@[simp] theorem State.setFuncol_cfg (s : State) (c : Colour) : (s.setFuncol c).cfg = s.cfg := rfl
@[simp] theorem State.setFuncol_wdtKicks (s : State) (c : Colour) : (s.setFuncol c).wdtKicks = s.wdtKicks := rfl
@[simp] theorem State.setFuncol_swSetting (s : State) (c : Colour) : (s.setFuncol c).swSetting = s.swSetting := rfl

@[simp] theorem State.setPins_phase (s : State) (w : BitVec 10) : (s.setPins w).phase = s.phase := rfl
@[simp] theorem State.setPins_tick (s : State) (w : BitVec 10) : (s.setPins w).tick = s.tick := rfl
@[simp] theorem State.setPins_timeout (s : State) (w : BitVec 10) : (s.setPins w).timeout = s.timeout := rfl
@[simp] theorem State.setPins_disp (s : State) (w : BitVec 10) : (s.setPins w).disp = s.disp := rfl
@[simp] theorem State.setPins_stg (s : State) (w : BitVec 10) : (s.setPins w).stg = s.stg := rfl
@[simp] theorem State.setPins_slot (s : State) (w : BitVec 10) : (s.setPins w).slot = s.slot := rfl
@[simp] theorem State.setPins_lastlen (s : State) (w : BitVec 10) : (s.setPins w).lastlen = s.lastlen := rfl
@[simp] theorem State.setPins_good (s : State) (w : BitVec 10) : (s.setPins w).good = s.good := rfl
@[simp] theorem State.setPins_address (s : State) (w : BitVec 10) : (s.setPins w).address = s.address := rfl
@[simp] theorem State.setPins_mode (s : State) (w : BitVec 10) : (s.setPins w).mode = s.mode := rfl
@[simp] theorem State.setPins_ieTmr (s : State) (w : BitVec 10) : (s.setPins w).ieTmr = s.ieTmr := rfl
@[simp] theorem State.setPins_ieRx (s : State) (w : BitVec 10) : (s.setPins w).ieRx = s.ieRx := rfl
@[simp] theorem State.setPins_led (s : State) (w : BitVec 10) : (s.setPins w).led = s.led := rfl
@[simp] theorem State.setPins_out (s : State) (w : BitVec 10) : (s.setPins w).out = s.out := rfl
@[simp] theorem State.setPins_tmrLoad (s : State) (w : BitVec 10) : (s.setPins w).tmrLoad = s.tmrLoad := rfl
@[simp] theorem State.setPins_mcStep (s : State) (w : BitVec 10) : (s.setPins w).mcStep = s.mcStep := rfl
@[simp] theorem State.setPins_swlatch (s : State) (w : BitVec 10) : (s.setPins w).swlatch = s.swlatch := rfl
@[simp] theorem State.setPins_tosnap (s : State) (w : BitVec 10) : (s.setPins w).tosnap = s.tosnap := rfl
@[simp] theorem State.setPins_funcol (s : State) (w : BitVec 10) : (s.setPins w).funcol = s.funcol := rfl
@[simp] theorem State.setPins_pins (s : State) (w : BitVec 10) : (s.setPins w).pins = w := rfl
@[simp] theorem State.setPins_stim (s : State) (w : BitVec 10) : (s.setPins w).stim = s.stim := rfl
@[simp] theorem State.setPins_cfg (s : State) (w : BitVec 10) : (s.setPins w).cfg = s.cfg := rfl
@[simp] theorem State.setPins_wdtKicks (s : State) (w : BitVec 10) : (s.setPins w).wdtKicks = s.wdtKicks := rfl
@[simp] theorem State.setPins_swSetting (s : State) (w : BitVec 10) : (s.setPins w).swSetting = s.swSetting := rfl

@[simp] theorem State.hardReset_phase (s : State) : s.hardReset.phase = State.reset.phase := rfl
@[simp] theorem State.hardReset_tick (s : State) : s.hardReset.tick = State.reset.tick := rfl
@[simp] theorem State.hardReset_timeout (s : State) : s.hardReset.timeout = State.reset.timeout := rfl
@[simp] theorem State.hardReset_disp (s : State) : s.hardReset.disp = State.reset.disp := rfl
@[simp] theorem State.hardReset_stg (s : State) : s.hardReset.stg = State.reset.stg := rfl
@[simp] theorem State.hardReset_slot (s : State) : s.hardReset.slot = State.reset.slot := rfl
@[simp] theorem State.hardReset_lastlen (s : State) : s.hardReset.lastlen = State.reset.lastlen := rfl
@[simp] theorem State.hardReset_good (s : State) : s.hardReset.good = State.reset.good := rfl
@[simp] theorem State.hardReset_address (s : State) : s.hardReset.address = State.reset.address := rfl
@[simp] theorem State.hardReset_mode (s : State) : s.hardReset.mode = State.reset.mode := rfl
@[simp] theorem State.hardReset_ieTmr (s : State) : s.hardReset.ieTmr = State.reset.ieTmr := rfl
@[simp] theorem State.hardReset_ieRx (s : State) : s.hardReset.ieRx = State.reset.ieRx := rfl
@[simp] theorem State.hardReset_led (s : State) : s.hardReset.led = State.reset.led := rfl
@[simp] theorem State.hardReset_out (s : State) : s.hardReset.out = State.reset.out := rfl
@[simp] theorem State.hardReset_tmrLoad (s : State) : s.hardReset.tmrLoad = State.reset.tmrLoad := rfl
@[simp] theorem State.hardReset_mcStep (s : State) : s.hardReset.mcStep = State.reset.mcStep := rfl
@[simp] theorem State.hardReset_swlatch (s : State) : s.hardReset.swlatch = State.reset.swlatch := rfl
@[simp] theorem State.hardReset_tosnap (s : State) : s.hardReset.tosnap = State.reset.tosnap := rfl
@[simp] theorem State.hardReset_funcol (s : State) : s.hardReset.funcol = State.reset.funcol := rfl
@[simp] theorem State.hardReset_pins (s : State) : s.hardReset.pins = s.pins := rfl
@[simp] theorem State.hardReset_stim (s : State) : s.hardReset.stim = s.stim := rfl
@[simp] theorem State.hardReset_cfg (s : State) : s.hardReset.cfg = s.cfg := rfl
@[simp] theorem State.hardReset_wdtKicks (s : State) : s.hardReset.wdtKicks = s.wdtKicks := rfl
@[simp] theorem State.hardReset_swSetting (s : State) : s.hardReset.swSetting = State.reset.swSetting := rfl

@[simp] theorem State.placeStimulus_phase (s : State) (w : StimWord) : (s.placeStimulus w).phase = s.phase := rfl
@[simp] theorem State.placeStimulus_tick (s : State) (w : StimWord) : (s.placeStimulus w).tick = s.tick := rfl
@[simp] theorem State.placeStimulus_timeout (s : State) (w : StimWord) : (s.placeStimulus w).timeout = s.timeout := rfl
@[simp] theorem State.placeStimulus_disp (s : State) (w : StimWord) : (s.placeStimulus w).disp = s.disp := rfl
@[simp] theorem State.placeStimulus_stg (s : State) (w : StimWord) : (s.placeStimulus w).stg = s.stg := rfl
@[simp] theorem State.placeStimulus_slot (s : State) (w : StimWord) : (s.placeStimulus w).slot = s.slot := rfl
@[simp] theorem State.placeStimulus_lastlen (s : State) (w : StimWord) : (s.placeStimulus w).lastlen = s.lastlen := rfl
@[simp] theorem State.placeStimulus_good (s : State) (w : StimWord) : (s.placeStimulus w).good = s.good := rfl
@[simp] theorem State.placeStimulus_address (s : State) (w : StimWord) : (s.placeStimulus w).address = s.address := rfl
@[simp] theorem State.placeStimulus_mode (s : State) (w : StimWord) : (s.placeStimulus w).mode = s.mode := rfl
@[simp] theorem State.placeStimulus_ieTmr (s : State) (w : StimWord) : (s.placeStimulus w).ieTmr = s.ieTmr := rfl
@[simp] theorem State.placeStimulus_ieRx (s : State) (w : StimWord) : (s.placeStimulus w).ieRx = s.ieRx := rfl
@[simp] theorem State.placeStimulus_led (s : State) (w : StimWord) : (s.placeStimulus w).led = s.led := rfl
@[simp] theorem State.placeStimulus_out (s : State) (w : StimWord) : (s.placeStimulus w).out = s.out := rfl
@[simp] theorem State.placeStimulus_tmrLoad (s : State) (w : StimWord) : (s.placeStimulus w).tmrLoad = s.tmrLoad := rfl
@[simp] theorem State.placeStimulus_mcStep (s : State) (w : StimWord) : (s.placeStimulus w).mcStep = s.mcStep := rfl
@[simp] theorem State.placeStimulus_swlatch (s : State) (w : StimWord) : (s.placeStimulus w).swlatch = s.swlatch := rfl
@[simp] theorem State.placeStimulus_tosnap (s : State) (w : StimWord) : (s.placeStimulus w).tosnap = s.tosnap := rfl
@[simp] theorem State.placeStimulus_funcol (s : State) (w : StimWord) : (s.placeStimulus w).funcol = s.funcol := rfl
@[simp] theorem State.placeStimulus_pins (s : State) (w : StimWord) : (s.placeStimulus w).pins = s.pins := rfl
@[simp] theorem State.placeStimulus_stim (s : State) (w : StimWord) : (s.placeStimulus w).stim = w :: s.stim := rfl
@[simp] theorem State.placeStimulus_cfg (s : State) (w : StimWord) : (s.placeStimulus w).cfg = s.cfg := rfl
@[simp] theorem State.placeStimulus_wdtKicks (s : State) (w : StimWord) : (s.placeStimulus w).wdtKicks = s.wdtKicks := rfl
@[simp] theorem State.placeStimulus_swSetting (s : State) (w : StimWord) : (s.placeStimulus w).swSetting = s.swSetting := rfl

end Sys2Proof.Machine
end

