-- ==== Sys2Proof/Laws/Ops.lean ====
section
/-! SUPPORT. What each shared operation can do, said once: the lemmas that proofs cite instead of unfolding the operation. -/

namespace Sys2Proof.Machine

open Sys2Proof

@[simp] theorem andThen_next (s : State) (f : State → Result) : andThen (.next s) f = f s := rfl
@[simp] theorem andThen_fault (r : Fault) (f : State → Result) : andThen (.fault r) f = .fault r := rfl
@[simp] theorem andThen_refused (r : Refusal) (f : State → Result) : andThen (.refused r) f = .refused r := rfl

/-- A sequence answers a next state exactly when both of its parts do. -/
theorem andThen_eq_next {o : Result} {f : State → Result} {t : State} :
    andThen o f = .next t ↔ ∃ s, o = .next s ∧ f s = .next t := by
  cases o <;> simp

/-- The length test leaves LASTLEN at the count just ended, whether it differed or not, and clears GOOD if it did. -/
theorem State.judgeLength_eq (s : State) :
    s.judgeLength = { s with lastlen := s.slot, good := s.good && s.slot == s.lastlen } := by
  unfold State.judgeLength lengthChanged
  by_cases h : s.slot = s.lastlen
  · cases s; simp_all
  · have : (s.slot == s.lastlen) = false := by simpa using h
    simp [State.clearGood, State.recordLength, bne, this]

/-- The commit, if GOOD: the display and TIMEOUT are all it writes. -/
theorem State.commitIfGood_eq (s : State) :
    s.commitIfGood =
      { s with disp := if s.good then s.stg else s.disp, timeout := if s.good then 0 else s.timeout } := by
  unfold State.commitIfGood State.commit
  cases h : s.good <;> cases s <;> simp_all

/-- The start-code test writes GOOD alone, and only clears it. -/
theorem State.testStartCode_eq (s : State) (d : Byte) :
    s.testStartCode d = { s with good := s.good && !badStartCode s.slot d } := by
  unfold State.testStartCode State.clearGood
  cases h : badStartCode s.slot d <;> cases s <;> simp_all

/-- The channel decoder stores the byte in the channel whose position it stands at, and nowhere else. -/
theorem State.storeWindow_cases (s : State) (d : Byte) :
    (s.slot.toNat = windowPos s.address 0 ∧ s.storeWindow d = s.stageRed d) ∨
    (s.slot.toNat = windowPos s.address 1 ∧ s.storeWindow d = s.stageGreen d) ∨
    (s.slot.toNat = windowPos s.address 2 ∧ s.storeWindow d = s.stageBlue d) ∨
    ((∀ k, k < 3 → s.slot.toNat ≠ windowPos s.address k) ∧ s.storeWindow d = s) := by
  unfold State.storeWindow windowPos
  split
  · simp_all
  · split
    · simp_all
    · split
      · simp_all
      · refine .inr (.inr (.inr ⟨fun k hk => ?_, rfl⟩))
        interval_cases k <;> simp_all

/-- An admitted TMR is its handler; another is refused. -/
theorem timingInterrupt_enabled {s : State} (h : s.ieTmr = true) (f : State → Result) :
    timingInterrupt s f = f s := by simp [timingInterrupt, h]

theorem timingInterrupt_disabled {s : State} (h : s.ieTmr = false) (f : State → Result) :
    timingInterrupt s f = .refused .tmrNotAdmitted := by simp [timingInterrupt, h]

/-- A character is handled while IE_RX = 1 and lost without trace otherwise. -/
theorem receiveInterrupt_enabled {s : State} (h : s.ieRx = true) (f : State → Result) :
    receiveInterrupt s f = f s := by simp [receiveInterrupt, h]

theorem receiveInterrupt_disabled {s : State} (h : s.ieRx = false) (f : State → Result) :
    receiveInterrupt s f = .next s := by simp [receiveInterrupt, h]

/-- Legal positions, and POR at any, run; a reserved MC_STEP is refused, and else a PHASE that is not one-hot (R112, R115). -/
theorem admitPosition_legal {s : State} (h : s.positionsLegal) (i : Instr) (f : State → Result) :
    admitPosition i s f = f s := if_pos (.inl h)

theorem admitPosition_por (s : State) (f : State → Result) : admitPosition .por s f = f s := if_pos (.inr rfl)

theorem admitPosition_reserved {s : State} {i : Instr} (h : ¬ s.mcStepLegal) (hi : i ≠ .por) (f : State → Result) :
    admitPosition i s f = .refused (.mcStepReserved s.mcStep) :=
  (if_neg (not_or.mpr ⟨fun hs => h hs.2, hi⟩)).trans (if_neg h)

theorem admitPosition_notOneHot {s : State} {i : Instr} (h : ¬ s.phaseOneHot) (hm : s.mcStepLegal) (hi : i ≠ .por)
    (f : State → Result) : admitPosition i s f = .refused (.phaseNotOneHot s.phase) :=
  (if_neg (not_or.mpr ⟨fun hs => h hs.1, hi⟩)).trans (if_pos hm)

/-- What is admitted to a next state ran, at legal positions or as POR. -/
theorem admitPosition_eq_next {s t : State} {i : Instr} {f : State → Result} :
    admitPosition i s f = .next t ↔ (s.positionsLegal ∨ i = .por) ∧ f s = .next t := by
  by_cases hi : i = .por
  · subst hi
    simp only [admitPosition_por, or_true, true_and]
  by_cases hm : s.mcStepLegal
  · by_cases hp : s.phaseOneHot
    · have h : s.positionsLegal := ⟨hp, hm⟩
      rw [admitPosition_legal h]
      exact ⟨fun hf => ⟨.inl h, hf⟩, And.right⟩
    · have h : ¬ s.positionsLegal := fun hs => hp hs.1
      simp only [admitPosition_notOneHot hp hm hi, h, hi, or_self, false_and, reduceCtorEq]
  · have h : ¬ s.positionsLegal := fun hs => hm hs.2
    simp only [admitPosition_reserved hm hi, h, hi, or_self, false_and, reduceCtorEq]

/-- Settling leaves legal positions alone and always ends at legal ones; it writes nothing but the positions. -/
theorem settlePositions_of_legal {s : State} (h : s.positionsLegal) : s.settlePositions = s := by
  unfold State.settlePositions
  rw [if_pos h.1, if_pos h.2]

theorem settlePositions_legal (s : State) : s.settlePositions.positionsLegal := by
  refine ⟨?_, ?_⟩
  · show { s with phase := if s.phaseOneHot then s.phase else 0x80 }.phaseOneHot
    split
    · assumption
    · exact .inl rfl
  · show (if s.mcStepLegal then s.mcStep else 0).toNat < 25
    split
    · assumption
    · decide

theorem settlePositions_frame (s : State) : { s.settlePositions with phase := s.phase, mcStep := s.mcStep } = s := rfl

/-- If the TMR handler answers a next state, one of the eight rows ran, at its own PHASE. -/
theorem pwmHandler_cases {s t : State} (h : pwmHandler s = .next t) :
    (s.phase = 0x80 ∧ execPwmP7 s = .next t) ∨ (s.phase = 0x40 ∧ execPwmP6 s = .next t) ∨
    (s.phase = 0x20 ∧ execPwmP5 s = .next t) ∨ (s.phase = 0x10 ∧ execPwmP4 s = .next t) ∨
    (s.phase = 0x08 ∧ execPwmP3 s = .next t) ∨ (s.phase = 0x04 ∧ execPwmP2 s = .next t) ∨
    (s.phase = 0x02 ∧ execPwmP1 s = .next t) ∨ (s.phase = 0x01 ∧ execPwmP0 s = .next t) := by
  unfold pwmHandler at h
  by_cases h7 : s.phase = 0x80
  · rw [if_pos h7] at h; exact .inl ⟨h7, h⟩
  rw [if_neg h7] at h
  by_cases h6 : s.phase = 0x40
  · rw [if_pos h6] at h; exact .inr (.inl ⟨h6, h⟩)
  rw [if_neg h6] at h
  by_cases h5 : s.phase = 0x20
  · rw [if_pos h5] at h; exact .inr (.inr (.inl ⟨h5, h⟩))
  rw [if_neg h5] at h
  by_cases h4 : s.phase = 0x10
  · rw [if_pos h4] at h; exact .inr (.inr (.inr (.inl ⟨h4, h⟩)))
  rw [if_neg h4] at h
  by_cases h3 : s.phase = 0x08
  · rw [if_pos h3] at h; exact .inr (.inr (.inr (.inr (.inl ⟨h3, h⟩))))
  rw [if_neg h3] at h
  by_cases h2 : s.phase = 0x04
  · rw [if_pos h2] at h; exact .inr (.inr (.inr (.inr (.inr (.inl ⟨h2, h⟩)))))
  rw [if_neg h2] at h
  by_cases h1 : s.phase = 0x02
  · rw [if_pos h1] at h; exact .inr (.inr (.inr (.inr (.inr (.inr (.inl ⟨h1, h⟩))))))
  rw [if_neg h1] at h
  by_cases h0 : s.phase = 0x01
  · rw [if_pos h0] at h; exact .inr (.inr (.inr (.inr (.inr (.inr (.inr ⟨h0, h⟩))))))
  rw [if_neg h0] at h
  cases h

/-- The low byte of a value put together from two pieces is the low piece. -/
theorem low_of_append {n : Nat} (x : BitVec n) (y : Byte) : (x ++ y).extractLsb' 0 8 = y := by
  ext i hi
  simp only [BitVec.getElem_extractLsb', BitVec.getLsbD_append, Nat.zero_add, hi, if_true]
  simp [hi]

/-- The bits above the low byte of a value put together from two pieces are the high piece. -/
theorem high_of_append {n : Nat} (x : BitVec n) (y : Byte) : (x ++ y).extractLsb' 8 n = x := by
  ext i hi
  simp only [BitVec.getElem_extractLsb', BitVec.getLsbD_append]
  simp [hi]

/-- The two pieces of a value, put together, are the value. -/
theorem append_pieces {n : Nat} (x : BitVec (n + 8)) : x.extractLsb' 8 n ++ x.extractLsb' 0 8 = x := by
  ext i hi
  simp only [BitVec.getElem_append, BitVec.getElem_extractLsb']
  split
  · simp; rfl
  · rw [show 8 + (i - 8) = i by omega]; rfl

/-- Both pieces of a counter, in either order, make the whole of the source. -/
theorem replacePiece_both (o : ByteOrder) (dst src : Counter) :
    replacePiece (secondPiece o) (replacePiece (firstPiece o) dst src) src = src := by
  cases o
  · exact (congrArg (src.extractLsb' 8 8 ++ ·) (low_of_append _ _)).trans (append_pieces (n := 8) src)
  · exact (congrArg (· ++ src.extractLsb' 0 8) (high_of_append _ _)).trans (append_pieces (n := 8) src)

/-- Both pieces of ADDRESS, in either order, make the whole of the source. -/
theorem replaceAddressPiece_both (o : ByteOrder) (dst src : BitVec 9) :
    replaceAddressPiece (secondPiece o) (replaceAddressPiece (firstPiece o) dst src) src = src := by
  cases o
  · exact (congrArg (src.extractLsb' 8 1 ++ ·) (low_of_append _ _)).trans (append_pieces (n := 1) src)
  · exact (congrArg (· ++ src.extractLsb' 0 8) (high_of_append _ _)).trans (append_pieces (n := 1) src)

/-- The next stimulus is the head of the list. -/
@[simp] theorem fetchStimulus_placeStimulus (s : State) (w : StimWord) :
    fetchStimulus (s.placeStimulus w) = some (w, s) := rfl

theorem fetchStimulus_cons {s : State} {w : StimWord} {rest : List StimWord} (h : s.stim = w :: rest) :
    fetchStimulus s = some (w, { s with stim := rest }) := by simp [fetchStimulus, h]

theorem fetchStimulus_nil {s : State} (h : s.stim = []) : fetchStimulus s = none := by
  simp [fetchStimulus, h]

/-! The micro-step that each position selects (R120). -/

theorem microStep_at_0 {s : State} (h : s.mcStep = 0) : microStep s = execMcKick s := by simp [microStep, h]
theorem microStep_at_1 {s : State} (h : s.mcStep = 1) : microStep s = execMcRdsw s := by simp [microStep, h]
theorem microStep_at_2 {s : State} (h : s.mcStep = 2) : microStep s = execMcWrmode s := by simp [microStep, h]
theorem microStep_at_3 {s : State} (h : s.mcStep = 3) : microStep s = execMcWraddr0 s := by simp [microStep, h]
theorem microStep_at_4 {s : State} (h : s.mcStep = 4) : microStep s = execMcWraddr1 s := by simp [microStep, h]
theorem microStep_at_5 {s : State} (h : s.mcStep = 5) : microStep s = execMcDispatch s := by simp [microStep, h]
theorem microStep_at_6 {s : State} (h : s.mcStep = 6) : microStep s = execMcIetmr1 s := by simp [microStep, h]
theorem microStep_at_7 {s : State} (h : s.mcStep = 7) : microStep s = execMcIerx1 s := by simp [microStep, h]
theorem microStep_at_8 {s : State} (h : s.mcStep = 8) : microStep s = execMcRdto0 s := by simp [microStep, h]
theorem microStep_at_9 {s : State} (h : s.mcStep = 9) : microStep s = execMcRdto1 s := by simp [microStep, h]
theorem microStep_at_10 {s : State} (h : s.mcStep = 10) : microStep s = execMcTest s := by simp [microStep, h]
theorem microStep_at_11 {s : State} (h : s.mcStep = 11) : microStep s = execMcBlkr s := by simp [microStep, h]
theorem microStep_at_12 {s : State} (h : s.mcStep = 12) : microStep s = execMcBlkg s := by simp [microStep, h]
theorem microStep_at_13 {s : State} (h : s.mcStep = 13) : microStep s = execMcBlkb s := by simp [microStep, h]
theorem microStep_at_14 {s : State} (h : s.mcStep = 14) : microStep s = execMcClamp0 s := by simp [microStep, h]
theorem microStep_at_15 {s : State} (h : s.mcStep = 15) : microStep s = execMcClamp1 s := by simp [microStep, h]
theorem microStep_at_16 {s : State} (h : s.mcStep = 16) : microStep s = execMcLedslow s := by simp [microStep, h]
theorem microStep_at_17 {s : State} (h : s.mcStep = 17) : microStep s = execMcLedfast s := by simp [microStep, h]
theorem microStep_at_18 {s : State} (h : s.mcStep = 18) : microStep s = execMcFietmr1 s := by simp [microStep, h]
theorem microStep_at_19 {s : State} (h : s.mcStep = 19) : microStep s = execMcIerx0 s := by simp [microStep, h]
theorem microStep_at_20 {s : State} (h : s.mcStep = 20) : microStep s = execMcLedon s := by simp [microStep, h]
theorem microStep_at_21 {s : State} (h : s.mcStep = 21) : microStep s = execMcFundec s := by simp [microStep, h]
theorem microStep_at_22 {s : State} (h : s.mcStep = 22) : microStep s = execMcFunr s := by simp [microStep, h]
theorem microStep_at_23 {s : State} (h : s.mcStep = 23) : microStep s = execMcFung s := by simp [microStep, h]
theorem microStep_at_24 {s : State} (h : s.mcStep = 24) : microStep s = execMcFunb s := by simp [microStep, h]

/-- A position of 25 to 31 selects none (R115). -/
theorem microStep_reserved {s : State} (h : ¬ s.mcStep.toNat < 25) :
    microStep s = .refused (.mcStepReserved s.mcStep) := by
  unfold microStep
  split <;> first | rfl | omega

/-! The slice that each one-hot PHASE selects (R101). -/

theorem pwmHandler_at_7 {s : State} (h : s.phase = 0x80) : pwmHandler s = execPwmP7 s := by simp [pwmHandler, h]
theorem pwmHandler_at_6 {s : State} (h : s.phase = 0x40) : pwmHandler s = execPwmP6 s := by simp [pwmHandler, h]
theorem pwmHandler_at_5 {s : State} (h : s.phase = 0x20) : pwmHandler s = execPwmP5 s := by simp [pwmHandler, h]
theorem pwmHandler_at_4 {s : State} (h : s.phase = 0x10) : pwmHandler s = execPwmP4 s := by simp [pwmHandler, h]
theorem pwmHandler_at_3 {s : State} (h : s.phase = 0x08) : pwmHandler s = execPwmP3 s := by simp [pwmHandler, h]
theorem pwmHandler_at_2 {s : State} (h : s.phase = 0x04) : pwmHandler s = execPwmP2 s := by simp [pwmHandler, h]
theorem pwmHandler_at_1 {s : State} (h : s.phase = 0x02) : pwmHandler s = execPwmP1 s := by simp [pwmHandler, h]
theorem pwmHandler_at_0 {s : State} (h : s.phase = 0x01) : pwmHandler s = execPwmP0 s := by simp [pwmHandler, h]

/-- One more micro-step of a pass. -/
theorem runPass_succ (n : Nat) (s : State) :
    runPass (n + 1) s = andThen (microStep s) (fun t => if t.mcStep = 0 then .next t else runPass n t) := rfl

@[simp] theorem execAll_nil (s : State) : execAll [] s = .next s := rfl

@[simp] theorem execAll_cons (i : Instr) (rest : List Instr) (s : State) :
    execAll (i :: rest) s = andThen (exec i s) (execAll rest) := rfl

/-- A sequence split in two. -/
theorem execAll_append (xs ys : List Instr) (s : State) :
    execAll (xs ++ ys) s = andThen (execAll xs s) (execAll ys) := by
  induction xs generalizing s with
  | nil => rfl
  | cons i rest ih =>
    simp only [List.cons_append, execAll_cons]
    cases exec i s <;> simp [ih]

/-- One more micro-step of what a pass detects: the row's own condition, or the rest of the pass. -/
theorem passDetects_of_next {n : Nat} {s t : State} (hs : stepDetects s = none) (ht : microStep s = .next t) :
    passDetects (n + 1) s = if t.mcStep = 0 then none else passDetects n t := by
  simp [passDetects, hs, ht]

theorem passDetects_of_detected {n : Nat} {s : State} {c : Condition} (hs : stepDetects s = some c) :
    passDetects (n + 1) s = some c := by simp [passDetects, hs]

/-! What an agent may write, over no step and over two in a row. -/

@[simp] theorem pwmWritesOnly_refl (s : State) : pwmWritesOnly s s := rfl
@[simp] theorem rxWritesOnly_refl (s : State) : rxWritesOnly s s := rfl
@[simp] theorem mcWritesOnly_refl (s : State) : mcWritesOnly s s := rfl

theorem mcWritesOnly_trans {s t u : State} (h : mcWritesOnly s t) (k : mcWritesOnly t u) : mcWritesOnly s u := by
  unfold mcWritesOnly at *
  cases s; cases t; cases u
  simp only [State.mk.injEq, true_and, and_true] at *
  simp_all

end Sys2Proof.Machine
end

