-- ==== Sys2Proof/Laws/PerInstr.lean ====
section
/-! SUPPORT. The families of statements about every operation as syntax, one lemma per constructor of Instr. -/

namespace Sys2Proof.Laws

open Sys2Proof

/-- A word widened to 16 bits is no larger than its own width allows. -/
theorem setWidth16_lt {n : Nat} (x : BitVec n) : (x.setWidth 16).toNat < 2 ^ n := by
  rw [BitVec.toNat_setWidth]
  exact Nat.lt_of_le_of_lt (Nat.mod_le _ _) x.isLt

namespace EncodeFits

/-- The word of an operation fits the width of its format (R91: every format has one fixed length). -/
def Statement (i : Instr) : Prop := (encode i).toNat < 2 ^ i.site.width

theorem pwmP7 : Statement .pwmP7 := by unfold Statement; decide
theorem pwmP6 : Statement .pwmP6 := by unfold Statement; decide
theorem pwmP5 : Statement .pwmP5 := by unfold Statement; decide
theorem pwmP4 : Statement .pwmP4 := by unfold Statement; decide
theorem pwmP3 : Statement .pwmP3 := by unfold Statement; decide
theorem pwmP2 : Statement .pwmP2 := by unfold Statement; decide
theorem pwmP1 : Statement .pwmP1 := by unfold Statement; decide
theorem pwmP0 : Statement .pwmP0 := by unfold Statement; decide
theorem rxBreak : Statement .rxBreak := by unfold Statement; decide
theorem rxFerr (d : Byte) : Statement (.rxFerr d) := setWidth16_lt _
theorem rxData (d : Byte) : Statement (.rxData d) := setWidth16_lt _
theorem mcKick : Statement .mcKick := by unfold Statement; decide
theorem mcRdsw : Statement .mcRdsw := by unfold Statement; decide
theorem mcWrmode : Statement .mcWrmode := by unfold Statement; decide
theorem mcWraddr0 : Statement .mcWraddr0 := by unfold Statement; decide
theorem mcWraddr1 : Statement .mcWraddr1 := by unfold Statement; decide
theorem mcDispatch : Statement .mcDispatch := by unfold Statement; decide
theorem mcIetmr1 : Statement .mcIetmr1 := by unfold Statement; decide
theorem mcIerx1 : Statement .mcIerx1 := by unfold Statement; decide
theorem mcRdto0 : Statement .mcRdto0 := by unfold Statement; decide
theorem mcRdto1 : Statement .mcRdto1 := by unfold Statement; decide
theorem mcTest : Statement .mcTest := by unfold Statement; decide
theorem mcBlkr : Statement .mcBlkr := by unfold Statement; decide
theorem mcBlkg : Statement .mcBlkg := by unfold Statement; decide
theorem mcBlkb : Statement .mcBlkb := by unfold Statement; decide
theorem mcClamp0 : Statement .mcClamp0 := by unfold Statement; decide
theorem mcClamp1 : Statement .mcClamp1 := by unfold Statement; decide
theorem mcLedslow : Statement .mcLedslow := by unfold Statement; decide
theorem mcLedfast : Statement .mcLedfast := by unfold Statement; decide
theorem mcFietmr1 : Statement .mcFietmr1 := by unfold Statement; decide
theorem mcIerx0 : Statement .mcIerx0 := by unfold Statement; decide
theorem mcLedon : Statement .mcLedon := by unfold Statement; decide
theorem mcFundec : Statement .mcFundec := by unfold Statement; decide
theorem mcFunr : Statement .mcFunr := by unfold Statement; decide
theorem mcFung : Statement .mcFung := by unfold Statement; decide
theorem mcFunb : Statement .mcFunb := by unfold Statement; decide
theorem funRsvd8 (x : BitVec 8) : Statement (.funRsvd8 x) := setWidth16_lt _
theorem funRsvd7 (x : BitVec 7) : Statement (.funRsvd7 x) := setWidth16_lt _
theorem funRed (x : BitVec 6) : Statement (.funRed x) :=
  Nat.lt_of_lt_of_le (setWidth16_lt _) (show 2 ^ 7 ≤ 2 ^ 9 by decide)
theorem funGreen (x : BitVec 5) : Statement (.funGreen x) :=
  Nat.lt_of_lt_of_le (setWidth16_lt _) (show 2 ^ 7 ≤ 2 ^ 9 by decide)
theorem funBlue (x : BitVec 4) : Statement (.funBlue x) :=
  Nat.lt_of_lt_of_le (setWidth16_lt _) (show 2 ^ 7 ≤ 2 ^ 9 by decide)
theorem funYellow (x : BitVec 3) : Statement (.funYellow x) :=
  Nat.lt_of_lt_of_le (setWidth16_lt _) (show 2 ^ 7 ≤ 2 ^ 9 by decide)
theorem funMagenta (x : BitVec 2) : Statement (.funMagenta x) :=
  Nat.lt_of_lt_of_le (setWidth16_lt _) (show 2 ^ 7 ≤ 2 ^ 9 by decide)
theorem funCyan (x : BitVec 1) : Statement (.funCyan x) :=
  Nat.lt_of_lt_of_le (setWidth16_lt _) (show 2 ^ 7 ≤ 2 ^ 9 by decide)
theorem funWhite : Statement .funWhite := by unfold Statement; decide
theorem funBlack : Statement .funBlack := by unfold Statement; decide
theorem swDecode (m : Bool) (h : BitVec 8) (a : Bool) : Statement (.swDecode m h a) := setWidth16_lt _
theorem tmr : Statement .tmr := by unfold Statement; decide
theorem rxc (f : Bool) (d : Byte) : Statement (.rxc f d) := (encode (.rxc f d)).isLt
theorem poll : Statement .poll := by unfold Statement; decide
theorem mstep : Statement .mstep := by unfold Statement; decide
theorem sw (w : BitVec 10) : Statement (.sw w) := (encode (.sw w)).isLt
theorem wdtx : Statement .wdtx := by unfold Statement; decide
theorem por : Statement .por := by unfold Statement; decide

end EncodeFits

end Sys2Proof.Laws
end

