-- ==== Sys2Proof/Tests/Slice0.lean ====
section
/-! SUPPORT. Tests of the model's text. Every expected value is from spec/95_test_vectors.md (the vector is named) or from the
tables of 30_encoding.md. -/

namespace Sys2Proof.Tests

open Sys2Proof Sys2Proof.Machine

/-- A part of the state that an operation leaves, if it answers a next state. -/
def after {α : Type} (r : Result) (f : State → α) : Option α :=
  match r with
  | .next s => some (f s)
  | .fault _ => none
  | .refused _ => none

/-- Why an operation was refused. -/
def refusal (r : Result) : Option Refusal :=
  match r with
  | .next _ => none
  | .fault _ => none
  | .refused q => some q

/-! WellFormed: each check refuses an ill-formed term. -/

theorem test_wf_refuses_ferr_with_zero_data : Instr.wf (.rxFerr 0) = false := by decide
theorem test_wf_takes_ferr : Instr.wf (.rxFerr 1) = true := by decide
theorem test_cfg_wf_refuses_equal_blink_bits : Config.wf { Config.standard with slowBit := 5 } = false := by decide
theorem test_cfg_wf_takes_the_defaults : Config.standard.wf = true := by decide

/-! Decode: every constructor, from a word of the spec's encoding of it. -/

/-- R101, the PHASE column. -/
theorem test_decode_phase :
    decode .phase 0b10000000 = .ok .pwmP7 ∧ decode .phase 0b01000000 = .ok .pwmP6 ∧
    decode .phase 0b00100000 = .ok .pwmP5 ∧ decode .phase 0b00010000 = .ok .pwmP4 ∧
    decode .phase 0b00001000 = .ok .pwmP3 ∧ decode .phase 0b00000100 = .ok .pwmP2 ∧
    decode .phase 0b00000010 = .ok .pwmP1 ∧ decode .phase 0b00000001 = .ok .pwmP0 := by decide

/-- PWM-12: values that are not one-hot. -/
theorem test_decode_phase_rejects :
    decode .phase 0x00 = .error (.phaseNotOneHot 0) ∧ decode .phase 0x03 = .error (.phaseNotOneHot 3) ∧
    decode .phase 0xFF = .error (.phaseNotOneHot 0xFF) ∧ decode .phase 0x180 = .error (.wordTooWide .phase 0x180) := by
  decide

/-- RX-1 to RX-5. -/
theorem test_decode_rxc :
    decode .rxc 0x100 = .ok .rxBreak ∧ decode .rxc 0x101 = .ok (.rxFerr 0x01) ∧
    decode .rxc 0x1FF = .ok (.rxFerr 0xFF) ∧ decode .rxc 0x000 = .ok (.rxData 0x00) ∧
    decode .rxc 0x0FF = .ok (.rxData 0xFF) := by decide

/-- R120, steps 0 to 12. -/
theorem test_decode_mcs_head :
    decode .mcs 0b00000 = .ok .mcKick ∧ decode .mcs 0b00001 = .ok .mcRdsw ∧ decode .mcs 0b00010 = .ok .mcWrmode ∧
    decode .mcs 0b00011 = .ok .mcWraddr0 ∧ decode .mcs 0b00100 = .ok .mcWraddr1 ∧
    decode .mcs 0b00101 = .ok .mcDispatch ∧ decode .mcs 0b00110 = .ok .mcIetmr1 ∧
    decode .mcs 0b00111 = .ok .mcIerx1 ∧ decode .mcs 0b01000 = .ok .mcRdto0 ∧ decode .mcs 0b01001 = .ok .mcRdto1 ∧
    decode .mcs 0b01010 = .ok .mcTest ∧ decode .mcs 0b01011 = .ok .mcBlkr ∧ decode .mcs 0b01100 = .ok .mcBlkg := by
  decide

/-- R120, steps 13 to 24, and the reserved values (MC-25). -/
theorem test_decode_mcs_tail :
    decode .mcs 0b01101 = .ok .mcBlkb ∧ decode .mcs 0b01110 = .ok .mcClamp0 ∧ decode .mcs 0b01111 = .ok .mcClamp1 ∧
    decode .mcs 0b10000 = .ok .mcLedslow ∧ decode .mcs 0b10001 = .ok .mcLedfast ∧
    decode .mcs 0b10010 = .ok .mcFietmr1 ∧ decode .mcs 0b10011 = .ok .mcIerx0 ∧ decode .mcs 0b10100 = .ok .mcLedon ∧
    decode .mcs 0b10101 = .ok .mcFundec ∧ decode .mcs 0b10110 = .ok .mcFunr ∧ decode .mcs 0b10111 = .ok .mcFung ∧
    decode .mcs 0b11000 = .ok .mcFunb ∧ decode .mcs 0b11001 = .error (.mcStepReserved 25) ∧
    decode .mcs 0b11111 = .error (.mcStepReserved 31) := by decide

/-- FUN-1 to FUN-10, then FUN-12, FUN-13, FUN-20, FUN-23. -/
theorem test_decode_fun :
    decode .fun9 0x001 = .ok (.funRed 0) ∧ decode .fun9 0x002 = .ok (.funGreen 0) ∧
    decode .fun9 0x004 = .ok (.funBlue 0) ∧ decode .fun9 0x008 = .ok (.funYellow 0) ∧
    decode .fun9 0x010 = .ok (.funMagenta 0) ∧ decode .fun9 0x020 = .ok (.funCyan 0) ∧
    decode .fun9 0x040 = .ok .funWhite ∧ decode .fun9 0x000 = .ok .funBlack ∧
    decode .fun9 0x080 = .ok (.funRsvd7 0) ∧ decode .fun9 0x100 = .ok (.funRsvd8 0) ∧
    decode .fun9 0x006 = .ok (.funGreen 1) ∧ decode .fun9 0x07F = .ok (.funRed 0x3F) ∧
    decode .fun9 0x0FF = .ok (.funRsvd7 0x7F) ∧ decode .fun9 0x1FF = .ok (.funRsvd8 0xFF) := by decide

/-- SW-2, SW-3, SW-9. -/
theorem test_decode_sww :
    decode .sww 0x3FE = .ok (.swDecode true 0xFF false) ∧ decode .sww 0x1FE = .ok (.swDecode false 0xFF false) ∧
    decode .sww 0x2AA = .ok (.swDecode true 0x55 false) := by decide

/-- EVT-1 to EVT-12. -/
theorem test_decode_evt :
    decode .evt 0x1000 = .ok .tmr ∧ decode .evt 0x2000 = .ok (.rxc false 0) ∧
    decode .evt 0x20FF = .ok (.rxc false 0xFF) ∧ decode .evt 0x2100 = .ok (.rxc true 0) ∧
    decode .evt 0x2155 = .ok (.rxc true 0x55) ∧ decode .evt 0x3000 = .ok .poll ∧ decode .evt 0x3400 = .ok .mstep ∧
    decode .evt 0x43FE = .ok (.sw 0x3FE) ∧ decode .evt 0x41FE = .ok (.sw 0x1FE) ∧ decode .evt 0x4000 = .ok (.sw 0) ∧
    decode .evt 0x5000 = .ok .wdtx ∧ decode .evt 0xF000 = .ok .por := by decide

/-- The words that section 2.6 of the vectors lists as rejected. -/
theorem test_decode_evt_rejects :
    decodeStimulus 0x0000 = .error (.reservedStimulus 0x0000) ∧
    decodeStimulus 0x1001 = .error (.reservedStimulus 0x1001) ∧
    decodeStimulus 0x2200 = .error (.reservedStimulus 0x2200) ∧
    decodeStimulus 0x3800 = .error (.reservedStimulus 0x3800) ∧
    decodeStimulus 0x6000 = .error (.reservedStimulus 0x6000) ∧
    decodeStimulus 0xF001 = .error (.reservedStimulus 0xF001) := by decide

/-- R126: SWL DMX, 1 and SWL FUN, 1 with the default polarity; the words of P1's second line. -/
theorem test_notation :
    swlWord Config.standard .dmx 1 = 0x43FE ∧ swlWord Config.standard .funMode 1 = 0x41FE ∧
    frameWords 0 [10, 20, 30, 40] = [0x2100, 0x2000, 0x200A, 0x2014, 0x201E, 0x2028] ∧
    cyclesWords 1 = List.replicate 8 0x1000 := by decide

/-! The PWM engine. -/

/-- The colour of PWM-1. -/
def lit : State := { State.reset with disp := ⟨10, 20, 30⟩, ieTmr := true }

/-- The output triple, TMR_LOAD and PHASE that a slice leaves. -/
def slice (i : Instr) (s : State) : Option (Lines × Byte × Byte) := after (exec i s) (fun t => (t.out, t.tmrLoad, t.phase))

/-- R132 and R133, their examples. -/
theorem test_pwmP7 : slice .pwmP7 { lit with disp := ⟨0x80, 0x7F, 0xFF⟩ } = some (⟨true, false, true⟩, 128, 0x40) := by
  decide
theorem test_pwmP6 : slice .pwmP6 { lit with disp := ⟨0x80, 0x7F, 0xFF⟩ } = some (⟨false, true, true⟩, 64, 0x20) := by
  decide
/-- R134, its example. -/
theorem test_pwmP5 : slice .pwmP5 { lit with disp := ⟨32, 32, 32⟩ } = some (⟨true, true, true⟩, 32, 0x10) := by decide
/-- PWM-1, rows 4 to 8. -/
theorem test_pwmP4 : slice .pwmP4 lit = some (⟨false, true, true⟩, 16, 0x08) := by decide
theorem test_pwmP3 : slice .pwmP3 lit = some (⟨true, false, true⟩, 8, 0x04) := by decide
theorem test_pwmP2 : slice .pwmP2 lit = some (⟨false, true, true⟩, 4, 0x02) := by decide
theorem test_pwmP1 : slice .pwmP1 lit = some (⟨true, false, true⟩, 2, 0x01) := by decide
theorem test_pwmP0 : slice .pwmP0 lit = some (⟨false, false, false⟩, 1, 0x80) := by decide
/-- PWM-8: 479 to 480, and both counters wrapping. -/
theorem test_pwmP0_counts :
    after (exec .pwmP0 { lit with tick := 7, timeout := 479 }) (fun t => (t.tick, t.timeout)) = some (8, 480) ∧
    after (exec .pwmP0 { lit with tick := 0xFFFF, timeout := 0xFFFF }) (fun t => (t.tick, t.timeout)) = some (0, 0) := by
  decide
/-- PWM-11 and PWM-12. -/
theorem test_tmr_refused :
    refusal (exec .tmr State.reset) = some .tmrNotAdmitted ∧
    refusal (exec .tmr { lit with phase := 0x03 }) = some (.phaseNotOneHot 0x03) := by decide
/-- PWM-1: the eight segments of a cycle. -/
theorem test_tmr_segments :
    segments 8 lit =
      [⟨⟨false, false, false⟩, 128⟩, ⟨⟨false, false, false⟩, 64⟩, ⟨⟨false, false, false⟩, 32⟩, ⟨⟨false, true, true⟩, 16⟩,
        ⟨⟨true, false, true⟩, 8⟩, ⟨⟨false, true, true⟩, 4⟩, ⟨⟨true, false, true⟩, 2⟩, ⟨⟨false, false, false⟩, 1⟩] := by
  decide

/-! The receiver. -/

/-- The state of vectors RX-6 to RX-19, at a slot. -/
def receiving (slot lastlen : Counter) (stg : Colour) : State :=
  { State.reset with
    ieRx := true, address := 1, disp := ⟨1, 2, 3⟩, timeout := 17, good := true
    slot := slot, lastlen := lastlen, stg := stg }

/-- DISP, STG, SLOT, LASTLEN, GOOD and TIMEOUT, as the vectors list them. -/
structure RxView where
  disp : Colour
  stg : Colour
  slot : Counter
  lastlen : Counter
  good : Bool
  timeout : Counter
deriving DecidableEq, Repr

/-- That part of the state that an operation leaves. -/
def rx (i : Instr) (s : State) : Option RxView :=
  after (exec i s) (fun t => ⟨t.disp, t.stg, t.slot, t.lastlen, t.good, t.timeout⟩)

/-- RX-6: commit. -/
theorem test_rxBreak_commits :
    rx .rxBreak (receiving 5 5 ⟨10, 20, 30⟩) = some ⟨⟨10, 20, 30⟩, ⟨0, 0, 0⟩, 0, 5, true, 0⟩ := by decide
/-- RX-7: the length changed. -/
theorem test_rxBreak_rejects_length :
    rx .rxBreak (receiving 4 5 ⟨11, 21, 31⟩) = some ⟨⟨1, 2, 3⟩, ⟨0, 0, 0⟩, 0, 4, true, 17⟩ := by decide
/-- RX-18. -/
theorem test_rxFerr :
    rx (.rxFerr 0x55) (receiving 2 5 ⟨10, 0, 0⟩) = some ⟨⟨1, 2, 3⟩, ⟨10, 0, 0⟩, 3, 5, false, 17⟩ := by decide
/-- RX-14, and RX-17 (ADDRESS = 0: the start code is stored as well). -/
theorem test_rxData :
    rx (.rxData 0x14) (receiving 2 5 ⟨10, 0, 0⟩) = some ⟨⟨1, 2, 3⟩, ⟨10, 20, 0⟩, 3, 5, true, 17⟩ ∧
    rx (.rxData 0x17) { receiving 0 5 ⟨0, 0, 0⟩ with address := 0 } =
      some ⟨⟨1, 2, 3⟩, ⟨23, 0, 0⟩, 1, 5, false, 17⟩ := by decide
/-- RX-19a: the window does not wrap at ADDRESS = 511. -/
theorem test_rxData_top_of_window :
    after (exec (.rxData 0x11) { receiving 513 5 ⟨17, 17, 0⟩ with address := 0x1FF }) (·.stg) = some ⟨17, 17, 17⟩ ∧
    after (exec (.rxData 0) { receiving 1 5 ⟨0, 0, 0⟩ with address := 0x1FF }) (·.stg) = some ⟨0, 0, 0⟩ := by decide
/-- RX-19: a mis-framed character at the start-code position is X1, not X2. -/
theorem test_rxc_detects :
    detects (.rxc true 0x55) (receiving 0 5 ⟨0, 0, 0⟩) = some .x1 ∧
    detects (.rxc false 0x17) (receiving 0 5 ⟨0, 0, 0⟩) = some .x2 ∧
    detects (.rxc true 0) (receiving 4 5 ⟨0, 0, 0⟩) = some .x3 := by decide
/-- RX-25: masked characters change nothing. -/
theorem test_rxc_masked : after (exec (.rxc false 0x55) State.reset) (· == State.reset) = some true := by decide

/-! The mode controller: MC-0 to MC-24. -/

/-- The part of the state that a micro-step leaves, with MC_STEP. -/
def mc {α : Type} (i : Instr) (s : State) (f : State → α) : Option (α × BitVec 5) :=
  after (exec i s) (fun t => (f t, t.mcStep))

/-- The state before, with `high_first` for every access. -/
def highFirst (s : State) : State :=
  { s with cfg := { s.cfg with timeoutReadOrder := .highFirst, timeoutWriteOrder := .highFirst, addressOrder := .highFirst } }

theorem test_mcKick : mc .mcKick State.reset (·.wdtKicks) = some (1, 1) := by decide
theorem test_mcRdsw : mc .mcRdsw { State.reset with pins := 0x3FE } (·.swlatch) = some (0x3FE, 2) := by decide
theorem test_mcWrmode :
    mc .mcWrmode { State.reset with swlatch := 0x3FE } (·.mode) = some (.dmx, 3) ∧
    mc .mcWrmode { State.reset with swlatch := 0x1FE } (·.mode) = some (.funMode, 3) := by decide
theorem test_mcWraddr0 :
    mc .mcWraddr0 { State.reset with swlatch := 0x3FE, address := 0x1AA } (·.address) = some (0x101, 4) ∧
    mc .mcWraddr0 (highFirst { State.reset with swlatch := 0x3FE, address := 0x1AA }) (·.address) = some (0x0AA, 4) := by
  decide
theorem test_mcWraddr1 :
    mc .mcWraddr1 { State.reset with swlatch := 0x3FE, address := 0x101 } (·.address) = some (0x001, 5) ∧
    mc .mcWraddr1 (highFirst { State.reset with swlatch := 0x3FE, address := 0x0AA }) (·.address) = some (0x001, 5) := by
  decide
theorem test_mcDispatch :
    mc .mcDispatch State.reset (·.mode) = some (.dmx, 6) ∧
    mc .mcDispatch { State.reset with mode := .funMode } (·.mode) = some (.funMode, 18) := by decide
theorem test_mcIetmr1 : mc .mcIetmr1 State.reset (fun t => (t.ieTmr, t.ieRx)) = some ((true, false), 7) := by decide
theorem test_mcIerx1 : mc .mcIerx1 State.reset (fun t => (t.ieTmr, t.ieRx)) = some ((false, true), 8) := by decide
theorem test_mcRdto0 :
    mc .mcRdto0 { State.reset with timeout := 0x01E3 } (·.tosnap) = some (0x00E3, 9) ∧
    mc .mcRdto0 (highFirst { State.reset with timeout := 0x01E3 }) (·.tosnap) = some (0x0100, 9) := by decide
theorem test_mcRdto1 :
    mc .mcRdto1 { State.reset with timeout := 0x01E3, tosnap := 0x00E3 } (·.tosnap) = some (0x01E3, 10) := by decide
theorem test_mcTest :
    mc .mcTest { State.reset with tosnap := 479 } (·.tosnap) = some (479, 17) ∧
    mc .mcTest { State.reset with tosnap := 480 } (·.tosnap) = some (480, 11) ∧
    detects .mcTest { State.reset with tosnap := 0xFFFF } = some .x4 := by decide
theorem test_mcBlkr : mc .mcBlkr { State.reset with disp := ⟨10, 20, 30⟩ } (·.disp) = some (⟨0, 20, 30⟩, 12) := by decide
theorem test_mcBlkg : mc .mcBlkg { State.reset with disp := ⟨0, 20, 30⟩ } (·.disp) = some (⟨0, 0, 30⟩, 13) := by decide
theorem test_mcBlkb : mc .mcBlkb { State.reset with disp := ⟨0, 0, 30⟩ } (·.disp) = some (⟨0, 0, 0⟩, 14) := by decide
theorem test_mcClamp0 :
    mc .mcClamp0 { State.reset with timeout := 0x02A7 } (·.timeout) = some (0x02E0, 15) ∧
    mc .mcClamp0 (highFirst { State.reset with timeout := 0x02A7 }) (·.timeout) = some (0x01A7, 15) := by decide
theorem test_mcClamp1 :
    mc .mcClamp1 { State.reset with timeout := 0x02E0 } (·.timeout) = some (0x01E0, 16) ∧
    mc .mcClamp1 (highFirst { State.reset with timeout := 0x01A7 }) (·.timeout) = some (0x01E0, 16) := by decide
theorem test_mcLedslow :
    mc .mcLedslow { State.reset with tick := 0x0100 } (·.led) = some (true, 0) ∧
    mc .mcLedslow { State.reset with tick := 0x00FF, led := true } (·.led) = some (false, 0) := by decide
theorem test_mcLedfast :
    mc .mcLedfast { State.reset with tick := 0x0020 } (·.led) = some (true, 0) ∧
    mc .mcLedfast { State.reset with tick := 0x001F, led := true } (·.led) = some (false, 0) := by decide
theorem test_mcFietmr1 : mc .mcFietmr1 State.reset (fun t => (t.ieTmr, t.ieRx)) = some ((true, false), 19) := by decide
theorem test_mcIerx0 :
    mc .mcIerx0 { State.reset with ieRx := true, ieTmr := true } (fun t => (t.ieTmr, t.ieRx)) = some ((true, false), 20) := by
  decide
theorem test_mcLedon : mc .mcLedon State.reset (·.led) = some (true, 21) := by decide
theorem test_mcFundec : mc .mcFundec { State.reset with address := 0x006 } (·.funcol) = some (⟨0, 255, 0⟩, 22) := by decide
theorem test_mcFunr :
    mc .mcFunr { State.reset with funcol := ⟨0, 255, 0⟩, disp := ⟨9, 9, 9⟩ } (·.disp) = some (⟨0, 9, 9⟩, 23) := by decide
theorem test_mcFung :
    mc .mcFung { State.reset with funcol := ⟨0, 255, 0⟩, disp := ⟨0, 9, 9⟩ } (·.disp) = some (⟨0, 255, 9⟩, 24) := by decide
theorem test_mcFunb :
    mc .mcFunb { State.reset with funcol := ⟨0, 255, 0⟩, disp := ⟨0, 255, 9⟩ } (·.disp) = some (⟨0, 255, 0⟩, 0) := by decide

/-- The colour that an address gives, through its row: FUN-1 to FUN-24 in part. -/
def funcolOf (a : BitVec 9) : Option Colour := after (exec (decodeFun a) State.reset) (·.funcol)

theorem test_fun_single_bits :
    funcolOf 0x001 = some ⟨255, 0, 0⟩ ∧ funcolOf 0x002 = some ⟨0, 255, 0⟩ ∧ funcolOf 0x004 = some ⟨0, 0, 255⟩ ∧
    funcolOf 0x008 = some ⟨255, 255, 0⟩ ∧ funcolOf 0x010 = some ⟨255, 0, 255⟩ ∧ funcolOf 0x020 = some ⟨0, 255, 255⟩ ∧
    funcolOf 0x040 = some ⟨255, 255, 255⟩ ∧ funcolOf 0x000 = some ⟨0, 0, 0⟩ ∧ funcolOf 0x080 = some ⟨32, 32, 32⟩ ∧
    funcolOf 0x100 = some ⟨32, 32, 32⟩ := by decide
theorem test_fun_priorities :
    funcolOf 0x003 = some ⟨255, 0, 0⟩ ∧ funcolOf 0x07E = some ⟨0, 255, 0⟩ ∧ funcolOf 0x07C = some ⟨0, 0, 255⟩ ∧
    funcolOf 0x078 = some ⟨255, 255, 0⟩ ∧ funcolOf 0x070 = some ⟨255, 0, 255⟩ ∧ funcolOf 0x060 = some ⟨0, 255, 255⟩ ∧
    funcolOf 0x081 = some ⟨32, 32, 32⟩ ∧ funcolOf 0x101 = some ⟨32, 32, 32⟩ := by decide

/-- SW-3, SW-8 (MODE_PIN_DMX = 1). -/
theorem test_swDecode :
    after (exec (decodeSww 0x1FE) State.reset) (·.swSetting) = some ⟨.funMode, 0x001⟩ ∧
    after (exec (decodeSww 0x155) State.reset) (·.swSetting) = some ⟨.funMode, 0x0AA⟩ := by decide
/-- SW-4 with MODE_PIN_DMX = 0. -/
theorem test_swDecode_other_polarity :
    after (exec (decodeSww 0x200) { State.reset with cfg := { Config.standard with modePinDmx := false } })
      (·.swSetting) = some ⟨.funMode, 0x1FF⟩ := by decide

/-! The stimuli. -/

/-- MC-27: the state before. -/
def polled (pins : BitVec 10) (timeout : Counter) : State :=
  { State.reset with pins := pins, timeout := timeout, tick := 0x0120, disp := ⟨10, 20, 30⟩, ieTmr := true, ieRx := true }

/-- MC-27, second row: a loss pass. -/
theorem test_poll_loss :
    after (exec .poll (polled 0x3FE 480)) (fun t => (t.mode, t.address, t.ieRx, t.disp)) =
      some (.dmx, 0x001, true, ⟨0, 0, 0⟩) ∧
    after (exec .poll (polled 0x3FE 480)) (fun t => (t.timeout, t.led, t.mcStep)) = some (480, true, 0) := by decide
/-- MC-27, fifth row: a Fun pass. -/
theorem test_poll_fun :
    after (exec .poll (polled 0x13E 5)) (fun t => (t.mode, t.address, t.ieRx, t.disp)) =
      some (.funMode, 0x0C1, false, ⟨32, 32, 32⟩) ∧
    after (exec .poll (polled 0x13E 5)) (fun t => (t.timeout, t.led, t.mcStep)) = some (5, true, 0) := by decide
/-- MC-28, row 1: the torn read, by micro-steps. -/
theorem test_mstep_torn :
    after (execAll [.mstep, .tmr, .mstep, .mstep] { lit with mcStep := 8, phase := 0x01, timeout := 0x00FF })
      (fun t => (t.tosnap, t.mcStep)) = some (0x01FF, 11) := by decide
/-- MC-25. -/
theorem test_mstep_reserved :
    refusal (exec .mstep { State.reset with mcStep := 25 }) = some (.mcStepReserved 25) ∧
    refusal (exec .poll { State.reset with mcStep := 31 }) = some (.mcStepReserved 31) := by decide
/-- R122. -/
theorem test_sw : after (exec (.sw 0x1FE) State.reset) (·.pins) = some 0x1FE := by decide
/-- R290 to R292: the pins stay. -/
theorem test_por :
    after (exec .por { lit with pins := 0x3FE, mcStep := 7 }) (· == { State.reset with pins := 0x3FE }) = some true := by decide
theorem test_wdtx :
    after (exec .wdtx { lit with tick := 9, wdtKicks := 3 }) (· == { State.reset with wdtKicks := 3 }) = some true := by decide

/-! Steps. -/

/-- PWM-11: after the first POLL the first TMR is PWM.P7. -/
theorem test_step_boot :
    after (Sys2Proof.core.run 2 { State.reset with stim := [0x3000, 0x1000] }) (fun t => (t.ieTmr, t.phase, t.stim)) =
      some (true, 0x40, []) := by decide
theorem test_step_reserved :
    refusal (step { State.reset with stim := [0x1001] }) = some (.reservedStimulus 0x1001) := by decide

/-- R115, R290: a state with MC_STEP 25 is refused by every stimulus but POR. -/
theorem test_step_refuses_a_reserved_position :
    [0x1000, 0x2100, 0x3000, 0x3400, 0x4000, 0x5000].map
        (fun w => refusal (step { State.reset with mcStep := 25, stim := [w] })) =
      List.replicate 6 (some (.mcStepReserved 25)) ∧
    after (step { State.reset with mcStep := 25, stim := [0xF000] }) (·.mcStep) = some 0 := by decide

/-- R112, D30, R290: so is a state whose PHASE is not one-hot. -/
theorem test_step_refuses_a_phase_not_one_hot :
    [0x1000, 0x2100, 0x3000, 0x3400, 0x4000, 0x5000].map
        (fun w => refusal (step { State.reset with phase := 0x81, ieTmr := true, stim := [w] })) =
      List.replicate 6 (some (.phaseNotOneHot 0x81)) ∧
    after (step { State.reset with phase := 0x00, stim := [0xF000] }) (·.phase) = some 0x80 := by decide

/-- A placed operation runs from illegal positions too (log entry 1). -/
theorem test_placed_from_a_reserved_position :
    after (step ({ State.reset with phase := 0, mcStep := 31 }.withFetchWord 16 0x1000)) (fun t => (t.phase, t.mcStep)) =
      some (0x40, 0) := by decide
/-- A table word placed runs as the first instruction after reset: PWM.P5, MC.TEST, FUN.RED, TMR, RXC. -/
theorem test_place :
    after (step (State.reset.withFetchWord 8 0x20)) (fun t => (t.tmrLoad, t.phase)) = some (32, 0x10) ∧
    after (step (State.reset.withFetchWord 8 0x0A)) (·.mcStep) = some 17 ∧
    after (step (State.reset.withFetchWord 16 0x001)) (·.funcol) = some ⟨255, 0, 0⟩ ∧
    after (step (State.reset.withFetchWord 16 0x1000)) (·.phase) = some 0x40 ∧
    after (step (State.reset.withFetchWord 16 0x2055)) (·.slot) = some 0 := by decide

end Sys2Proof.Tests
end

