-- ==== Sys2Proof/Tests/Witnesses.lean ====
section
/-! SUPPORT. For every statement with hypotheses, a concrete state and operands that meet all of them together, one witness for
each of its clauses. -/

namespace Sys2Proof.Tests

open Sys2Proof Sys2Proof.Machine

theorem witness_DecodeOfEncodeIsTheOperation :
    Instr.wf (.rxFerr 0xFF) = true ∧ Instr.wf (.funCyan 1) = true ∧ Instr.wf (.sw 0x3FF) = true := by decide

theorem witness_EncodeOfDecodeIsTheWord :
    decode .phase 0x80 = .ok .pwmP7 ∧ decode .rxc 0x1FF = .ok (.rxFerr 0xFF) ∧ decode .mcs 24 = .ok .mcFunb ∧
    decode .fun9 0x180 = .ok (.funRsvd8 0x80) ∧ decode .sww 0 = .ok (.swDecode false 0 false) ∧
    decode .evt 0xF000 = .ok .por := by decide

/-- The words on either side of each class's range. -/
theorem witness_StimulusDecoderTakesTheSevenClassesOnly :
    [0x0000#16, 0x1FFF, 0x2200, 0x33FF, 0x3FFF, 0x4400, 0x5001, 0xFFFF].all (fun w =>
      w != 0x1000 && w.toNat / 512 != 16 && w != 0x3000 && w != 0x3400 && w.toNat / 1024 != 16 && w != 0x5000 &&
        w != 0xF000) = true ∧
    decodeStimulus 0x21FF = .ok (.rxc true 0xFF) ∧ decodeStimulus 0x43FF = .ok (.sw 0x3FF) := by decide

/-- Legal positions, their edge, a reserved MC_STEP and a PHASE not one-hot, with POR and with another stimulus. -/
theorem witness_StepRunsTheDecodedStimulus :
    { lit with stim := [0x1000, 0x3400] }.stim = 0x1000 :: [0x3400] ∧ decodeStimulus 0x1000 = .ok .tmr ∧
    { lit with stim := [0x1000], mcStep := 24 }.positionsLegal ∧ ¬ { lit with stim := [0x1000], mcStep := 25 }.mcStepLegal ∧
    ¬ { lit with stim := [0x1000], phase := 0x03 }.positionsLegal ∧ { lit with stim := [0x1000], phase := 0x03 }.mcStepLegal ∧
    Instr.tmr ≠ .por ∧ decodeStimulus 0xF000 = .ok .por := by decide

theorem witness_StepStopsOnReservedWordsAndAtTheEnd :
    { lit with stim := [0x1001] }.stim = 0x1001 :: [] ∧ (∀ i, decodeStimulus 0x1001 ≠ .ok i) ∧ State.reset.stim = [] := by
  refine ⟨rfl, fun i h => ?_, rfl⟩
  rw [show decodeStimulus 0x1001 = .error (.reservedStimulus 0x1001) by decide] at h
  cases h

theorem witness_PlacedOperationRunsNext :
    Instr.pwmP0.site = .phase ∧ (Instr.rxFerr 1).site = .rxc ∧ (Instr.rxFerr 1).wf = true ∧ Instr.mcFunb.site = .mcs ∧
    Instr.funBlack.site = .fun9 ∧ (Instr.swDecode true 0 false).site = .sww ∧ Instr.poll.site = .evt ∧
    Instr.poll ≠ .tmr ∧ lit.positionsLegal ∧
    { lit with mcStep := 31 }.settlePositions.mcStep = 0 ∧ { lit with phase := 0x81 }.settlePositions.phase = 0x80 := by decide

theorem witness_TimerHandlerRendersAndAdvances :
    ∀ p ∈ [0x80#8, 0x40, 0x20, 0x10, 0x08, 0x04, 0x02, 0x01],
      { lit with phase := p }.ieTmr = true ∧ { lit with phase := p }.phaseOneHot := by decide

theorem witness_TimerIsRefusedWhereItHasNoMeaning :
    State.reset.ieTmr = false ∧ lit.ieTmr = true ∧ ¬ { lit with phase := 0x00 }.phaseOneHot ∧
    ¬ { lit with phase := 0x81 }.phaseOneHot := by decide

theorem witness_cycle_statements : lit.ieTmr = true ∧ lit.phase = 0x80 := by decide

/-- Rows of two other agents, and two slices (LastSliceCountsTheCycle, SlicesRenderTheirBit). -/
theorem witness_LastSliceCountsTheCycle :
    Instr.rxBreak.site ≠ .evt ∧ Instr.rxBreak ≠ .pwmP0 ∧ exec .rxBreak lit = .next lit.judgeLength.commitIfGood.rearm ∧
    Instr.pwmP7.site = .phase ∧ Instr.pwmP7 ≠ .pwmP0 ∧ exec .pwmP7 lit = .next ((lit.renderSlice 7).toPhase 0x40) :=
  ⟨by decide, by decide, rfl, rfl, by decide, rfl⟩

/-- The first clause, and a mis-framed character at the edges of its range. -/
theorem witness_TimerDisabled_MisframedCharacter :
    State.reset.ieTmr = false ∧ 0x01#8 ≠ 0 ∧ 0xFF#8 ≠ 0 := by decide

/-- TICK moves at the wrap (TickMovesOnlyAtTheWrap). -/
theorem witness_TickMovesOnlyAtTheWrap :
    Instr.tmr.site = .evt ∧
    exec .tmr { lit with phase := 0x01 } = .next (({ lit with phase := 0x01 }.renderSlice 0).toPhase 0x80).countCycle ∧
    (({ lit with phase := 0x01 }.renderSlice 0).toPhase 0x80).countCycle.tick ≠ { lit with phase := 0x01 }.tick :=
  ⟨rfl, rfl, by decide⟩

/-- A valid frame of two characters of matching length, a misframed one, and the empty frame. -/
theorem witness_FrameCommitsExactlyIfValidAndStable :
    (receiving 0 2 ⟨0, 0, 0⟩).ieRx = true ∧ (receiving 0 2 ⟨0, 0, 0⟩).slot = 0 ∧ (receiving 0 2 ⟨0, 0, 0⟩).good = true ∧
    (receiving 0 2 ⟨0, 0, 0⟩).stg = Colour.black ∧ [(false, 0#8), (false, 9#8)].length < 2 ^ 16 ∧
    noBreak [(false, 0#8), (false, 9#8)] = true ∧ validFrame [(false, 0#8), (false, 9#8)] = true ∧
    noBreak [(false, 0#8), (true, 9#8)] = true ∧ validFrame [(false, 0#8), (true, 9#8)] = false ∧
    noBreak [] = true ∧ validFrame [] = true := by decide

theorem witness_TwoEqualFramesAreNeededForTrust :
    (receiving 7 3 ⟨1, 1, 1⟩).ieRx = true ∧ noBreak [(true, 3#8)] = true ∧ noBreak [(false, 0#8)] = true ∧ noBreak [] = true ∧
    [(true, 3#8)].length = [(false, 0#8)].length ∧ validFrame [(false, 0#8)] = true ∧
    [(true, 3#8)].length ≠ ([] : List (Bool × Byte)).length := by decide

theorem witness_ReceiverRegistersAreTheReceivers :
    Instr.mstep.site = .evt ∧ isReset .mstep = false ∧ exec .mstep State.reset = .next (State.reset.kick.goto 1) ∧
    (∀ f d, Instr.mstep = .rxc f d → State.reset.ieRx = false) ∧
    exec (.rxc true 0) { State.reset with ieRx := true } =
      .next { State.reset with ieRx := true }.judgeLength.commitIfGood.rearm ∧
    { State.reset with ieRx := true }.good = false ∧
    { State.reset with ieRx := true }.judgeLength.commitIfGood.rearm.good = true :=
  ⟨rfl, rfl, rfl, (fun _ _ h => by cases h), rfl, rfl, rfl⟩

/-- Each of X1, X2 and X3 is detected, and a dropped character detects nothing. -/
theorem witness_CharacterConditionsAndTheirEffects :
    exec (.rxc false 9) (receiving 0 5 ⟨0, 0, 0⟩) =
      .next (((receiving 0 5 ⟨0, 0, 0⟩).testStartCode 9).storeWindow 9).advanceSlot ∧
    detects (.rxc true 1) (receiving 2 5 ⟨0, 0, 0⟩) = some .x1 ∧ detects (.rxc false 9) (receiving 0 5 ⟨0, 0, 0⟩) = some .x2 ∧
    detects (.rxc true 0) (receiving 4 5 ⟨0, 0, 0⟩) = some .x3 ∧ detects (.rxc true 0) State.reset = none :=
  ⟨rfl, by decide, by decide, by decide, by decide⟩

theorem witness_LongBreakIsOneCharacter :
    10 ≤ 10 ∧ lineCharacters .first .hunt (List.replicate 10 false ++ [true]) = [(true, 0)] ∧
    lineCharacters .both .hunt (List.replicate 30 false ++ [true]) = [(true, 0)] := by decide

/-- Both byte orders (the statements on two-step accesses). -/
theorem witness_byte_orders :
    lit.cfg.addressOrder = .lowFirst ∧ (highFirst lit).cfg.addressOrder = .highFirst ∧
    lit.cfg.timeoutReadOrder = .lowFirst ∧ (highFirst lit).cfg.timeoutReadOrder = .highFirst ∧
    lit.cfg.timeoutWriteOrder = .lowFirst ∧ (highFirst lit).cfg.timeoutWriteOrder = .highFirst := by decide

/-- An address of every row, at the edges of its range. -/
theorem witness_FunRowsByMatchAndMask :
    0x100#9 &&& 0x100 = 0x100 ∧ 0x1FF#9 &&& 0x100 = 0x100 ∧ 0x080#9 &&& 0x180 = 0x080 ∧ 0x0FF#9 &&& 0x180 = 0x080 ∧
    0x07F#9 &&& 0x181 = 0x001 ∧ 0x07E#9 &&& 0x183 = 0x002 ∧ 0x07C#9 &&& 0x187 = 0x004 ∧ 0x078#9 &&& 0x18F = 0x008 ∧
    0x070#9 &&& 0x19F = 0x010 ∧ 0x060#9 &&& 0x1BF = 0x020 := by decide

/-- The last legal position and the first reserved one (MicroStepRunsTheSelectedRow, PollFinishesThePassInProgress). -/
theorem witness_micro_step_positions :
    { lit with mcStep := 24 }.mcStepLegal ∧ ¬ { lit with mcStep := 25 }.mcStepLegal := by decide

/-- The three kinds of pass, the first two at the threshold (PassesTakeTheirNumberOfMicroSteps, PollHasTheNetEffectOfAPass). -/
theorem witness_passes :
    lit.mcStep = 0 ∧ lit.pins.getLsbD 9 = lit.cfg.modePinDmx ∧ 480 ≤ { lit with timeout := 480 }.timeout.toNat ∧
    ¬ 480 ≤ { lit with timeout := 479 }.timeout.toNat ∧
    ¬ { lit with pins := 0x1FF }.pins.getLsbD 9 = { lit with pins := 0x1FF }.cfg.modePinDmx := by decide

theorem witness_PinsHoldUntilTheNextSwitchStimulus :
    (∀ w, Instr.por ≠ .sw w) ∧ exec .por lit = .next lit.hardReset := ⟨(fun _ h => by cases h), rfl⟩

theorem witness_TimeoutReadCanBeTorn :
    { lit with mcStep := 8, phase := 0x01, timeout := 0x00FF }.mcStep = 8 ∧
    { lit with mcStep := 8, phase := 0x01, timeout := 0x00FF }.ieTmr = true ∧
    { lit with mcStep := 8, phase := 0x01, timeout := 0x00FF }.phase = 0x01 := by decide

/-- Ready to commit, at each of the seven positions. -/
theorem witness_CommitInALossPass :
    480 ≤ { receiving 5 5 ⟨10, 20, 30⟩ with mcStep := 10, tosnap := 480 }.tosnap.toNat ∧
    { receiving 5 5 ⟨10, 20, 30⟩ with mcStep := 10, tosnap := 480 }.mcStep = 10 ∧
    { receiving 5 5 ⟨10, 20, 30⟩ with mcStep := 10, tosnap := 480 }.ieRx = true ∧
    { receiving 5 5 ⟨10, 20, 30⟩ with mcStep := 10, tosnap := 480 }.good = true ∧
    { receiving 5 5 ⟨10, 20, 30⟩ with mcStep := 10, tosnap := 480 }.slot =
      { receiving 5 5 ⟨10, 20, 30⟩ with mcStep := 10, tosnap := 480 }.lastlen ∧
    ∀ n ∈ [11#5, 12, 13, 14, 15, 16], { receiving 5 5 ⟨10, 20, 30⟩ with mcStep := n }.ieRx = true ∧
      { receiving 5 5 ⟨10, 20, 30⟩ with mcStep := n }.good = true ∧
      { receiving 5 5 ⟨10, 20, 30⟩ with mcStep := n }.slot = { receiving 5 5 ⟨10, 20, 30⟩ with mcStep := n }.lastlen ∧
      { receiving 5 5 ⟨10, 20, 30⟩ with mcStep := n }.mcStep = n := by decide

theorem witness_HandlerOrderIsObservable :
    { receiving 5 5 ⟨10, 20, 30⟩ with ieTmr := true, phase := 0x01 }.ieTmr = true ∧
    { receiving 5 5 ⟨10, 20, 30⟩ with ieTmr := true, phase := 0x01 }.ieRx = true ∧
    { receiving 5 5 ⟨10, 20, 30⟩ with ieTmr := true, phase := 0x01 }.phase = 0x01 ∧
    { receiving 5 5 ⟨10, 20, 30⟩ with ieTmr := true, phase := 0x01 }.good = true ∧
    { receiving 5 5 ⟨10, 20, 30⟩ with ieTmr := true, phase := 0x01 }.slot =
      { receiving 5 5 ⟨10, 20, 30⟩ with ieTmr := true, phase := 0x01 }.lastlen := by decide

/-- A commit changes the display (DisplayChangesOnlyByItsWriters), and so does a black byte. -/
theorem witness_DisplayChangesOnlyByItsWriters :
    (Instr.rxc true 0).site = .evt ∧
    exec (.rxc true 0) (receiving 5 5 ⟨10, 20, 30⟩) = .next (receiving 5 5 ⟨10, 20, 30⟩).judgeLength.commitIfGood.rearm ∧
    (receiving 5 5 ⟨10, 20, 30⟩).judgeLength.commitIfGood.rearm.disp ≠ (receiving 5 5 ⟨10, 20, 30⟩).disp ∧
    exec .mstep { lit with mcStep := 11 } = .next (({ lit with mcStep := 11 }.setDispRed 0).goto 12) ∧
    (({ lit with mcStep := 11 }.setDispRed 0).goto 12).disp ≠ lit.disp :=
  ⟨rfl, rfl, by decide, rfl, by decide⟩

/-- A step from a legal state (EveryStepKeepsThePositionsLegal, EveryStepKeepsThePassConsistent): in the middle of a Fun
pass, with a timer stimulus to come. -/
theorem witness_invariants :
    { lit with stim := [0x1000], mcStep := 19, mode := .funMode, swlatch := 0x1FF }.positionsLegal ∧
    { lit with stim := [0x1000], mcStep := 19, mode := .funMode, swlatch := 0x1FF }.passConsistent ∧
    step { lit with stim := [0x1000], mcStep := 19, mode := .funMode, swlatch := 0x1FF } =
      .next (({ lit with mcStep := 19, mode := .funMode, swlatch := 0x1FF }.renderSlice 7).toPhase 0x40) :=
  ⟨by decide, by decide, rfl⟩

theorem witness_AdmissibleStimulusIsExecuted :
    { lit with stim := [0x1000] }.positionsLegal ∧ { lit with stim := [0x1000] }.stim = 0x1000 :: [] ∧
    admissible { lit with stim := [0x1000] } 0x1000 :=
  ⟨by decide, rfl, ⟨.tmr, by decide⟩, fun _ => rfl⟩

/-- The other six classes, in the reset state, where a TMR is not admissible (AdmissibleStimulusIsExecuted). -/
theorem witness_every_other_stimulus_is_admissible_at_reset :
    State.reset.positionsLegal ∧ State.reset.ieTmr = false ∧
    [0x2100, 0x3000, 0x3400, 0x43FF, 0x5000, 0xF000].map (fun w => accepted (decodeStimulus w)) =
      [some (.rxc true 0), some .poll, some .mstep, some (.sw 0x3FF), some .wdtx, some .por] := by decide

theorem witness_WDTX_is_admissible_at_reset :
    admissible { State.reset with stim := [0x5000] } 0x5000 := ⟨⟨.wdtx, by decide⟩, fun h => nomatch h⟩

theorem witness_TimerEnableStaysUntilReset :
    isReset .mstep = false ∧ lit.ieTmr = true ∧ exec .mstep lit = .next (lit.kick.goto 1) := ⟨rfl, rfl, rfl⟩

/-- Loss at MC.TEST and at the start of a pass, its edge, and the first position of the Fun branch (LossIsDetectedByTheControllerAlone). -/
theorem witness_LossIsDetectedByTheControllerAlone :
    { lit with mcStep := 10, tosnap := 480 }.mcStep = 10 ∧ detects .mstep { lit with mcStep := 10, tosnap := 480 } = some .x4 ∧
    detects .mstep { lit with mcStep := 10, tosnap := 479 } = none ∧ { lit with mcStep := 11 }.mcStep ≠ 10 ∧
    lit.mcStep = 0 ∧ detects .poll { lit with timeout := 480 } = some .x4 ∧
    18 ≤ { lit with mcStep := 18 }.mcStep.toNat ∧ Instr.poll.site = .evt := by decide

/-- Each writer answers a next state in which TIMEOUT differs: the last slice, a commit, the clamp's two bytes, a pass whole and
finished from its last clamp byte, a reset, and a row (TimeoutHasThreeWriters). -/
theorem witness_TimeoutHasThreeWriters :
    lit.timeout = 0 ∧ after (exec .tmr { lit with phase := 0x01 }) (·.timeout) = some 1 ∧
    (receiving 5 5 ⟨1, 2, 3⟩).timeout = 17 ∧ after (exec (.rxc true 0) (receiving 5 5 ⟨1, 2, 3⟩)) (·.timeout) = some 0 ∧
    after (exec .mstep { lit with mcStep := 14 }) (·.timeout) = some 0xE0 ∧
    after (exec .mstep { lit with mcStep := 15 }) (·.timeout) = some 0x100 ∧
    after (exec .poll { lit with timeout := 500 }) (·.timeout) = some 480 ∧
    after (exec .poll { lit with mcStep := 15 }) (·.timeout) = some 0x100 ∧
    after (exec .por (receiving 5 5 ⟨1, 2, 3⟩)) (·.timeout) = some 0 ∧
    Instr.pwmP0.site ≠ .evt ∧ after (exec .pwmP0 lit) (·.timeout) = some 1 := by decide

/-- The same for ADDRESS, from 0 (AddressHasOneWriter). -/
theorem witness_AddressHasOneWriter :
    lit.address = 0 ∧ after (exec .mstep { lit with mcStep := 3 }) (·.address) = some 0xFF ∧
    after (exec .mstep { lit with mcStep := 4 }) (·.address) = some 0x100 ∧
    after (exec .poll { lit with pins := 0x3FE }) (·.address) = some 1 ∧
    after (exec .poll { lit with mcStep := 3 }) (·.address) = some 0x1FF ∧
    after (exec .poll { lit with mcStep := 4 }) (·.address) = some 0x100 ∧
    after (exec .wdtx { lit with address := 5 }) (·.address) = some 0 ∧
    Instr.mcWraddr0.site ≠ .evt ∧ after (exec .mcWraddr0 lit) (·.address) = some 0xFF := by decide

/-- An operation of every agent and decode table answers a next state (EachAgentWritesItsOwnRegisters). -/
theorem witness_EachAgentWritesItsOwnRegisters :
    (after (exec .tmr lit) (·.phase)).isSome = true ∧ (after (exec (.rxc true 0) lit) (·.slot)).isSome = true ∧
    (after (exec .mstep lit) (·.mcStep)).isSome = true ∧ (after (exec .poll lit) (·.mcStep)).isSome = true ∧
    ∀ i ∈ [Instr.pwmP7, .rxBreak, .mcKick, .funBlack, .swDecode true 0 true],
      (after (exec i lit) (·.phase)).isSome = true ∧ i.site ≠ .evt := by decide

end Sys2Proof.Tests
end

/-! The statements on the words of a character (R93) and on the stimulus TMR where it has no meaning (R112, R256). -/

namespace Sys2Proof.Machine

open Sys2Proof

/-! ## The TMR stimulus -/

/-- The row TMR of the dispatch (R122): the timing interrupt's admission test before the handler. -/
theorem exec_tmr (s : State) : exec .tmr s = timingInterrupt s pwmHandler := rfl

/-- R112: a PHASE that is not one-hot selects no slice. -/
theorem pwmHandler_notOneHot {s : State} (h : ¬ s.phaseOneHot) :
    pwmHandler s = .refused (.phaseNotOneHot s.phase) := by
  simp only [State.phaseOneHot, not_or] at h
  obtain ⟨h7, h6, h5, h4, h3, h2, h1, h0⟩ := h
  unfold pwmHandler
  rw [if_neg h7, if_neg h6, if_neg h5, if_neg h4, if_neg h3, if_neg h2, if_neg h1, if_neg h0]

/-- Settles O13: the admission test of R256 stops the first, the handler's last branch the second. -/
theorem timerIsRefusedWhereItHasNoMeaning : Obligations.TimerIsRefusedWhereItHasNoMeaning := by
  unfold Obligations.TimerIsRefusedWhereItHasNoMeaning
  refine ⟨fun s hOff => ?_, fun s hOn hPhase => ?_⟩
  · rw [exec_tmr, timingInterrupt_disabled hOff]
  · rw [exec_tmr, timingInterrupt_enabled hOn, pwmHandler_notOneHot hPhase]

/-! ## The words of a character -/

/-- The data bits of a character's word (R92). -/
@[simp] theorem charWord_dataBits (f : Bool) (d : Byte) : (charWord f d).extractLsb' 0 8 = d := low_of_append _ _

/-- A character's word determines its flag and its data. -/
theorem charWord_inj {f g : Bool} {d e : Byte} : charWord f d = charWord g e ↔ f = g ∧ d = e := by
  refine ⟨fun h => ⟨?_, ?_⟩, fun ⟨hf, hd⟩ => hf ▸ hd ▸ rfl⟩
  · have hbit : BitVec.ofBool f = BitVec.ofBool g := by
      simpa only [charWord, high_of_append] using congrArg (·.extractLsb' 8 1) h
    exact BitVec.ofBool_eq_iff_eq.mp hbit
  · simpa only [charWord_dataBits] using congrArg (·.extractLsb' 0 8) h

/-- The match word of RX.BREAK (R93), which is also the mask of the flag, is the character with `f = 1` and data 0. -/
theorem breakWord_eq_charWord : (0x100 : BitVec 9) = charWord true 0 := rfl

/-- R93: the word is that of RX.BREAK exactly if `f = 1` and the data is 0. -/
theorem charWord_eq_breakWord {f : Bool} {d : Byte} : charWord f d = 0x100 ↔ f = true ∧ d = 0 := by
  rw [breakWord_eq_charWord, charWord_inj]

/-- Masking a character's word with the flag bit clears the data. -/
theorem charWord_and_flagMask (f : Bool) (d : Byte) : charWord f d &&& 0x100 = charWord f 0 := by
  rw [breakWord_eq_charWord]
  calc charWord f d &&& charWord true 0
      = (BitVec.ofBool f &&& BitVec.ofBool true) ++ (d &&& 0#8) := BitVec.and_append
    _ = charWord f 0 := by rw [BitVec.ofBool_and_ofBool, Bool.and_true, BitVec.and_zero]; rfl

/-- R93: the flag bit of the word is `f`. -/
theorem charWord_flagBit_set {f : Bool} {d : Byte} : charWord f d &&& 0x100 = 0x100 ↔ f = true := by
  rw [charWord_and_flagMask, charWord_eq_breakWord, and_iff_left rfl]

/-- Settles O4: the decoder's two tests on the word are the tests of R93 on `f` and `d`. -/
theorem everyCharacterSelectsOneOperation : Obligations.EveryCharacterSelectsOneOperation := by
  unfold Obligations.EveryCharacterSelectsOneOperation
  intro f d
  simp only [decodeRxc, charWord_eq_breakWord, charWord_flagBit_set, charWord_dataBits]

end Sys2Proof.Machine

/-! The statements on the PWM engine: its slices (R132 to R139), its TMR handler (R130), and who writes TICK (R41). -/

namespace Sys2Proof.Machine

open Sys2Proof

/-! ## One-hot masks and counters -/

/-- A bit of a word is ON exactly if the word has a bit in common with the mask of that bit. -/
theorem and_oneHot_ne_zero {w k : Nat} (hk : k < w) (x : BitVec w) : ((x &&& 1#w <<< k) != 0) = x.getLsbD k := by
  have hmask : BitVec.twoPow w k ≠ 0#w := fun h => by
    simpa [BitVec.getLsbD_twoPow, hk] using congrArg (·.getLsbD k) h
  rw [← BitVec.twoPow_eq, BitVec.and_twoPow]
  cases x.getLsbD k
  · simp
  · simpa using hmask

/-- One unit more on a counter is the natural successor modulo 2^16 (R13). -/
theorem counter_add_one (x : Counter) : x + 1 = BitVec.ofNat 16 ((x.toNat + 1) % 2 ^ 16) := by
  apply BitVec.eq_of_toNat_eq
  rw [BitVec.toNat_add, BitVec.toNat_ofNat, Nat.mod_mod]
  rfl

/-- Above bit 0, the PHASE of a slice is not that of the last one, and shifting it right gives the PHASE of the next slice. -/
theorem oneHot_succ {k : Nat} (hk : k < 7) : 1#8 <<< (k + 1) ≠ (0x01 : Byte) ∧ (1#8 <<< (k + 1)) >>> 1 = 1#8 <<< k := by
  revert k
  decide

/-! ## The slices -/

/-- A slice's writes, field by field: bit `k` of the three intensities, the load `2^k` and the next PHASE. -/
theorem State.renderSlice_toPhase (s : State) (k : Nat) {load p : Byte} (hload : 1#8 <<< k = load) :
    (s.renderSlice k).toPhase p =
      { s with out := ⟨s.disp.r.getLsbD k, s.disp.g.getLsbD k, s.disp.b.getLsbD k⟩, tmrLoad := load, phase := p } := by
  subst hload
  rfl

/-- The multiplexer (R131) as the mask of R130: bit `k` of each intensity, read off with the one-hot word of that bit. -/
theorem outputLines_eq_mask {k : Nat} (hk : k < 8) (c : Colour) :
    outputLines c k = ⟨(c.r &&& 1#8 <<< k) != 0, (c.g &&& 1#8 <<< k) != 0, (c.b &&& 1#8 <<< k) != 0⟩ := by
  simp only [and_oneHot_ne_zero hk]
  rfl

/-- At the slice's own PHASE the multiplexer's mask and the load are both PHASE itself (R130, steps 1 and 2). -/
theorem State.renderSlice_of_oneHot {s : State} {k : Nat} (hk : k < 8) (hp : s.phase = 1#8 <<< k) :
    s.renderSlice k =
      { s with
        out := ⟨(s.disp.r &&& s.phase) != 0, (s.disp.g &&& s.phase) != 0, (s.disp.b &&& s.phase) != 0⟩
        tmrLoad := s.phase } := by
  unfold State.renderSlice
  rw [outputLines_eq_mask hk, ← hp]

/-- No slice detects a condition (R250). -/
theorem detects_slice {i : Instr} (hi : i.site = .phase) (s : State) : detects i s = none := by
  cases i <;> cases hi <;> rfl

/-- A row of the PHASE decode other than PWM.P0 renders a bit above bit 0 and moves to the slice of the bit below. -/
theorem exec_slice_of_ne_last {i : Instr} (hi : i.site = .phase) (hlast : i ≠ .pwmP0) (s : State) :
    ∃ k < 7, exec i s = .next ((s.renderSlice (k + 1)).toPhase (1#8 <<< k)) := by
  cases i <;> cases hi
  case pwmP7 => exact ⟨6, by decide, rfl⟩
  case pwmP6 => exact ⟨5, by decide, rfl⟩
  case pwmP5 => exact ⟨4, by decide, rfl⟩
  case pwmP4 => exact ⟨3, by decide, rfl⟩
  case pwmP3 => exact ⟨2, by decide, rfl⟩
  case pwmP2 => exact ⟨1, by decide, rfl⟩
  case pwmP1 => exact ⟨0, by decide, rfl⟩
  case pwmP0 => exact absurd rfl hlast

/-- Settles O10: each row is `State.renderSlice_toPhase` at its bit, and each PHASE is a line of the table of R101. -/
theorem slicesRenderTheirBit : Obligations.SlicesRenderTheirBit := by
  unfold Obligations.SlicesRenderTheirBit
  refine ⟨fun i s hi => detects_slice hi s, fun s => ⟨?_, ?_, ?_, ?_, ?_, ?_, ?_, rfl, rfl, rfl, rfl, rfl, rfl, rfl⟩⟩
  · exact congrArg Host.Outcome.next (State.renderSlice_toPhase s 7 rfl)
  · exact congrArg Host.Outcome.next (State.renderSlice_toPhase s 6 rfl)
  · exact congrArg Host.Outcome.next (State.renderSlice_toPhase s 5 rfl)
  · exact congrArg Host.Outcome.next (State.renderSlice_toPhase s 4 rfl)
  · exact congrArg Host.Outcome.next (State.renderSlice_toPhase s 3 rfl)
  · exact congrArg Host.Outcome.next (State.renderSlice_toPhase s 2 rfl)
  · exact congrArg Host.Outcome.next (State.renderSlice_toPhase s 1 rfl)

/-! ## What the rows of the other decode tables write -/

/-- A row of the Fun colour decode writes FUNCOL alone (R227 to R236). -/
theorem exec_fun9Row {i : Instr} (hi : i.site = .fun9) (s : State) : ∃ c, exec i s = .next (s.setFuncol c) := by
  cases i <;> cases hi <;> exact ⟨_, rfl⟩

/-- Whichever row the address selects, it writes FUNCOL alone. -/
theorem funRow_writes_funcol (a : BitVec 9) (s : State) : ∃ c, funRow a s = .next (s.setFuncol c) := by
  unfold funRow
  split_ifs <;> exact ⟨_, rfl⟩

/-- The switch decode drives its outputs and nothing else (R237). -/
theorem exec_swwRow {i : Instr} (hi : i.site = .sww) (s : State) : ∃ w, exec i s = .next (s.decodeSwitches w) := by
  cases i <;> cases hi
  case swDecode m ah a0 => exact ⟨switchWord m ah a0, rfl⟩

/-- A row of the RXC decode writes the receiver's registers only (R41). -/
theorem exec_rxcRow_writesOnly {i : Instr} {s t : State} (hi : i.site = .rxc) (h : exec i s = .next t) :
    rxWritesOnly s t := by
  cases i <;> cases hi <;> cases h
  case rxBreak =>
    rw [State.judgeLength_eq, State.commitIfGood_eq]
    rfl
  case rxFerr => rfl
  case rxData d =>
    rw [State.testStartCode_eq]
    rcases State.storeWindow_cases { s with good := s.good && !badStartCode s.slot d } d with
      ⟨-, hstore⟩ | ⟨-, hstore⟩ | ⟨-, hstore⟩ | ⟨-, hstore⟩ <;>
    · rw [hstore]
      rfl

/-- A micro-step's row writes the mode controller's registers only (R41); MC.FUNDEC through the row that ADDRESS selects. -/
theorem exec_mcsRow_writesOnly {i : Instr} {s t : State} (hi : i.site = .mcs) (h : exec i s = .next t) :
    mcWritesOnly s t := by
  cases i <;> cases hi
  case mcFundec =>
    obtain ⟨u, hrow, hgoto⟩ := andThen_eq_next.mp h
    obtain ⟨c, hc⟩ := funRow_writes_funcol s.address s
    cases hc.symm.trans hrow
    cases hgoto
    rfl
  all_goals
    cases h
    rfl

/-! ## The counters -/

/-- TICK is no register of the receiver's (R41). -/
theorem tick_of_rxWritesOnly {s t : State} (h : rxWritesOnly s t) : t.tick = s.tick := by
  unfold rxWritesOnly at h
  exact (congrArg State.tick h :)

/-- TICK is no register of the mode controller's (R41). -/
theorem tick_of_mcWritesOnly {s t : State} (h : mcWritesOnly s t) : t.tick = s.tick := by
  unfold mcWritesOnly at h
  exact (congrArg State.tick h :)

/-- A slice other than the last leaves both counters. -/
theorem exec_slice_counters {i : Instr} {s t : State} (hi : i.site = .phase) (hlast : i ≠ .pwmP0)
    (h : exec i s = .next t) : t.tick = s.tick ∧ t.timeout = s.timeout := by
  obtain ⟨k, -, hrun⟩ := exec_slice_of_ne_last hi hlast s
  cases hrun.symm.trans h
  exact ⟨rfl, rfl⟩

/-- R26: PWM.P0 is the only row that writes TICK. -/
theorem exec_row_tick {i : Instr} {s t : State} (hi : i.site ≠ .evt) (hlast : i ≠ .pwmP0) (h : exec i s = .next t) :
    t.tick = s.tick := by
  cases hsite : i.site with
  | phase => exact (exec_slice_counters hsite hlast h).1
  | rxc => exact tick_of_rxWritesOnly (exec_rxcRow_writesOnly hsite h)
  | mcs => exact tick_of_mcWritesOnly (exec_mcsRow_writesOnly hsite h)
  | fun9 =>
    obtain ⟨c, hrun⟩ := exec_fun9Row hsite s
    cases hrun.symm.trans h
    rfl
  | sww =>
    obtain ⟨w, hrun⟩ := exec_swwRow hsite s
    cases hrun.symm.trans h
    rfl
  | evt => exact absurd hsite hi

/-- PWM.P0 (R139): the slice of bit 0, the wrap, and the count of the cycle. -/
theorem exec_pwmP0 (s : State) : exec .pwmP0 s = .next ((s.renderSlice 0).toPhase 0x80).countCycle := rfl

/-- Settles O11: the row's own writes, and the frames of every other row. -/
theorem lastSliceCountsTheCycle : Obligations.LastSliceCountsTheCycle := by
  unfold Obligations.LastSliceCountsTheCycle
  refine ⟨rfl, detects_slice rfl, fun s => ?_, fun _ _ _ => exec_row_tick,
    fun _ _ _ hi hlast h => (exec_slice_counters hi hlast h).2⟩
  rw [exec_pwmP0, State.renderSlice_toPhase s 0 rfl, ← counter_add_one, ← counter_add_one]
  rfl

/-! ## The TMR handler -/

/-- At a one-hot PHASE the handler runs the slice of that bit: above bit 0 it moves to the bit below, at bit 0 it wraps and
counts the cycle. -/
theorem pwmHandler_of_oneHot {s : State} (h : s.phaseOneHot) :
    (∃ k < 7, s.phase = 1#8 <<< (k + 1) ∧ pwmHandler s = .next ((s.renderSlice (k + 1)).toPhase (1#8 <<< k))) ∨
    (s.phase = 1#8 <<< 0 ∧ pwmHandler s = .next ((s.renderSlice 0).toPhase 0x80).countCycle) := by
  rcases h with h7 | h6 | h5 | h4 | h3 | h2 | h1 | h0
  · exact .inl ⟨6, by decide, h7, pwmHandler_at_7 h7⟩
  · exact .inl ⟨5, by decide, h6, pwmHandler_at_6 h6⟩
  · exact .inl ⟨4, by decide, h5, pwmHandler_at_5 h5⟩
  · exact .inl ⟨3, by decide, h4, pwmHandler_at_4 h4⟩
  · exact .inl ⟨2, by decide, h3, pwmHandler_at_3 h3⟩
  · exact .inl ⟨1, by decide, h2, pwmHandler_at_2 h2⟩
  · exact .inl ⟨0, by decide, h1, pwmHandler_at_1 h1⟩
  · exact .inr ⟨h0, pwmHandler_at_0 h0⟩

/-- Settles O12: the admission test of R256, then the handler at the slices that shift PHASE and at the one that wraps it. -/
theorem timerHandlerRendersAndAdvances : Obligations.TimerHandlerRendersAndAdvances := by
  unfold Obligations.TimerHandlerRendersAndAdvances
  refine ⟨fun s hOff t h => ?_, fun s => rfl, fun s hOn hPhase => ?_⟩
  · rw [exec_tmr, timingInterrupt_disabled hOff] at h
    cases h
  · rw [exec_tmr, timingInterrupt_enabled hOn]
    rcases pwmHandler_of_oneHot hPhase with ⟨k, hk, hp, hrun⟩ | ⟨hp, hrun⟩
    · obtain ⟨hne, hshift⟩ := oneHot_succ hk
      rw [← hp] at hne hshift
      rw [hrun, State.renderSlice_of_oneHot (Nat.succ_lt_succ hk) hp, if_neg hne, if_neg hne, if_neg hne, hshift]
      rfl
    · have hlast : s.phase = 0x01 := hp
      rw [hrun, State.renderSlice_of_oneHot (by decide) hp, if_pos hlast, if_pos hlast, if_pos hlast]
      rfl

end Sys2Proof.Machine

/-! The statements on the three operations of the receiver: RX.BREAK (R161), RX.FERR (R165) and RX.DATA (R166). -/

namespace Sys2Proof.Machine

open Sys2Proof

/-! ## The two tests of the receiver -/

/-- X3 (R162) is read off the two counts. -/
theorem lengthChanged_eq_true {slot lastlen : Counter} : lengthChanged slot lastlen = true ↔ slot ≠ lastlen := bne_iff_ne

/-- X2 (R167) is read off the position and the byte. -/
theorem badStartCode_eq_true {slot : Counter} {d : Byte} : badStartCode slot d = true ↔ slot = 0 ∧ d ≠ 0 := by
  rw [badStartCode, Bool.and_eq_true, beq_iff_eq, bne_iff_ne]

/-! ## RX.BREAK -/

/-- The break's sub-step a where the count is LASTLEN: it writes nothing (R162). -/
theorem State.judgeLength_of_eq {s : State} (h : s.slot = s.lastlen) : s.judgeLength = s :=
  if_neg (lengthChanged_eq_true.not_left.mpr h)

/-- The break's sub-step a where the count differs (R162). -/
theorem State.judgeLength_of_ne {s : State} (h : s.slot ≠ s.lastlen) : s.judgeLength = s.recordLength.clearGood :=
  if_pos (lengthChanged_eq_true.mpr h)

/-- The break's sub-step b is a commit exactly while GOOD is set (R163). -/
theorem State.commitIfGood_of_good {s : State} (h : s.good = true) : s.commitIfGood = s.commit := if_pos h

theorem State.commitIfGood_of_not_good {s : State} (h : s.good = false) : s.commitIfGood = s :=
  if_neg (Bool.eq_false_iff.mp h)

/-- RX.BREAK (R161): its three sub-steps in order. -/
theorem exec_rxBreak (s : State) : exec .rxBreak s = .next s.judgeLength.commitIfGood.rearm := rfl

/-- Settles O17: a count that differs clears GOOD before the commit is tested; with an equal count GOOD decides. -/
theorem breakJudgesCommitsAndRearms : Obligations.BreakJudgesCommitsAndRearms := by
  unfold Obligations.BreakJudgesCommitsAndRearms
  refine ⟨everyCharacterSelectsOneOperation true 0, fun s => ?_, fun s => ?_⟩
  · exact (if_congr lengthChanged_eq_true rfl rfl).trans (ite_not _ _ _)
  · rw [exec_rxBreak]
    by_cases hlen : s.slot = s.lastlen
    · rw [State.judgeLength_of_eq hlen]
      cases hgood : s.good with
      | true =>
        rw [State.commitIfGood_of_good hgood]
        simp only [hlen, and_self, if_true]
        rfl
      | false =>
        rw [State.commitIfGood_of_not_good hgood]
        simp only [hlen, Bool.false_eq_true, and_false, if_true, if_false]
        rfl
    · rw [State.judgeLength_of_ne hlen, State.commitIfGood_of_not_good (State.clearGood_good _)]
      simp only [hlen, false_and, if_false]
      rfl

/-! ## RX.FERR -/

/-- RX.FERR (R165): the frame is invalidated and the character counted. -/
theorem exec_rxFerr (d : Byte) (s : State) : exec (.rxFerr d) s = .next s.clearGood.advanceSlot := rfl

/-- Settles O18: with the data not 0 the word is not that of a break, and the two writes are all the operation does. -/
theorem misframedCharacterInvalidatesAndCounts : Obligations.MisframedCharacterInvalidatesAndCounts := by
  unfold Obligations.MisframedCharacterInvalidatesAndCounts
  refine fun d s => ⟨fun hd => ?_, rfl, ?_⟩
  · rw [everyCharacterSelectsOneOperation true d, if_neg fun h => hd h.2, if_pos rfl]
  · rw [exec_rxFerr, ← counter_add_one]
    rfl

/-! ## RX.DATA -/

/-- The start-code test's write (R167): a non-zero byte at position 0 clears GOOD. -/
theorem State.testStartCode_eq_ite (s : State) (d : Byte) :
    s.testStartCode d = { s with good := if s.slot = 0 ∧ d ≠ 0 then false else s.good } := by
  by_cases h : s.slot = 0 ∧ d ≠ 0
  · rw [if_pos h]
    exact if_pos (badStartCode_eq_true.mpr h)
  · rw [if_neg h]
    exact if_neg (badStartCode_eq_true.not.mpr h)

/-- The channel decoder's write (R168): the three positions of the window differ, so the byte goes to one channel at most. -/
theorem State.storeWindow_eq_ite (s : State) (d : Byte) :
    s.storeWindow d = { s with stg :=
      if s.slot.toNat = s.address.toNat then ⟨d, s.stg.g, s.stg.b⟩
      else if s.slot.toNat = s.address.toNat + 1 then ⟨s.stg.r, d, s.stg.b⟩
      else if s.slot.toNat = s.address.toNat + 2 then ⟨s.stg.r, s.stg.g, d⟩
      else s.stg } := by
  rcases s.storeWindow_cases d with ⟨hred, hstore⟩ | ⟨hgreen, hstore⟩ | ⟨hblue, hstore⟩ | ⟨hout, hstore⟩
  · have hpos : s.slot.toNat = s.address.toNat := hred
    rw [hstore, if_pos hpos]
    rfl
  · rw [windowPos] at hgreen
    rw [hstore, if_neg (by omega), if_pos hgreen]
    rfl
  · rw [windowPos] at hblue
    rw [hstore, if_neg (by omega), if_neg (by omega), if_pos hblue]
    rfl
  · have hnred : s.slot.toNat ≠ s.address.toNat := hout 0 (by decide)
    have hngreen : s.slot.toNat ≠ s.address.toNat + 1 := hout 1 (by decide)
    have hnblue : s.slot.toNat ≠ s.address.toNat + 2 := hout 2 (by decide)
    rw [hstore, if_neg hnred, if_neg hngreen, if_neg hnblue]

/-- RX.DATA (R166): its three sub-steps in order. -/
theorem exec_rxData (d : Byte) (s : State) :
    exec (.rxData d) s = .next ((s.testStartCode d).storeWindow d).advanceSlot := rfl

/-- Settles O19: the start-code test leaves SLOT and ADDRESS as they are, so the channel decoder sees those of the entry. -/
theorem dataByteIsTestedStoredAndCounted : Obligations.DataByteIsTestedStoredAndCounted := by
  unfold Obligations.DataByteIsTestedStoredAndCounted
  refine fun d s => ⟨?_, if_congr badStartCode_eq_true rfl rfl, ?_⟩
  · rw [everyCharacterSelectsOneOperation false d, if_neg fun h => Bool.false_ne_true h.1, if_neg Bool.false_ne_true]
  · rw [exec_rxData, State.testStartCode_eq_ite, State.storeWindow_eq_ite, ← counter_add_one]
    rfl

end Sys2Proof.Machine

/-! The statements on the mode controller's micro-steps (R202 to R225) and on the Fun colour decode (R226 to R236). -/

namespace Sys2Proof.Machine

open Sys2Proof

/-! ## What the rows detect -/

/-- MC.TEST is the only micro-step that detects a condition (R250). -/
theorem detects_mcsRow {i : Instr} (s : State) (hi : i.site = .mcs := by rfl) (hne : i ≠ .mcTest := by decide) :
    detects i s = none := by
  cases i <;> cases hi
  case mcTest => exact absurd rfl hne
  all_goals rfl

/-- No row of the Fun colour decode detects a condition. -/
theorem detects_fun9Row {i : Instr} (hi : i.site = .fun9) (s : State) : detects i s = none := by
  cases i <;> cases hi <;> rfl

/-! ## Sequences of micro-steps -/

/-- A sequence goes on from the state that its first operation leaves. -/
theorem execAll_cons_of_next {i : Instr} {rest : List Instr} {s t : State} (h : exec i s = .next t) :
    execAll (i :: rest) s = execAll rest t := by
  rw [execAll_cons, h, andThen_next]

/-- Two operations in a row, each answering a next state. -/
theorem execAll_pair {i j : Instr} {s t u : State} (h : exec i s = .next t) (k : exec j t = .next u) :
    execAll [i, j] s = .next u := by
  rw [execAll_cons_of_next h, execAll_cons_of_next k, execAll_nil]

/-! ## The pieces of a wide register -/

/-- Taking the high piece from the source is keeping the low piece of the destination on the source. -/
theorem replaceAddressPiece_high (dst src : BitVec 9) :
    replaceAddressPiece .high dst src = replaceAddressPiece .low src dst := rfl

/-- The low piece of ADDRESS is bits 7..0 (R204). -/
theorem replaceAddressPiece_low_getLsbD {k : Nat} (hk : k < 8) (dst src : BitVec 9) :
    (replaceAddressPiece .low dst src).getLsbD k = src.getLsbD k :=
  BitVec.getLsbD_append.trans (by simp [hk])

/-- Bit 8 is not of the low piece (R205). -/
theorem replaceAddressPiece_low_getLsbD_top (dst src : BitVec 9) :
    (replaceAddressPiece .low dst src).getLsbD 8 = dst.getLsbD 8 :=
  BitVec.getLsbD_append.trans (by simp)

/-- The low byte of a counter is taken from the source, the high byte kept. -/
theorem replacePiece_low_toNat (dst src : Counter) :
    (replacePiece .low dst src).toNat = dst.toNat / 256 * 256 + src.toNat % 256 := by
  have hlow : (lowByte src).toNat = src.toNat % 256 := by simp [lowByte]
  have hhigh : (highByte dst).toNat = dst.toNat / 256 := by
    rw [highByte, BitVec.extractLsb'_toNat, Nat.shiftRight_eq_div_pow]
    omega
  rw [replacePiece, BitVec.toNat_append, ← Nat.shiftLeft_add_eq_or_of_lt (lowByte src).isLt, hlow, hhigh,
    Nat.shiftLeft_eq]

/-- The high byte of a counter is taken from the source, the low byte kept. -/
theorem replacePiece_high_toNat (dst src : Counter) :
    (replacePiece .high dst src).toNat = src.toNat / 256 * 256 + dst.toNat % 256 :=
  replacePiece_low_toNat src dst

/-! ## The switches -/

/-- R237: the decode's address is the complement of the nine address pins. -/
theorem switchDecode_address_getLsbD {k : Nat} (hk : k < 9) (c : Config) (w : BitVec 10) :
    (switchDecode c w).address.getLsbD k = !w.getLsbD k := by
  simp [switchDecode, hk]

/-- Settles O28: the row is the sample and the successor. -/
theorem switchesAreSampledTogether : Obligations.SwitchesAreSampledTogether := by
  unfold Obligations.SwitchesAreSampledTogether
  exact ⟨rfl, detects_mcsRow, fun s => rfl⟩

/-- MC.WRMODE (R203): the decode is driven with SWLATCH before its mode is read. -/
theorem exec_mcWrmode (s : State) : exec .mcWrmode s = .next ((s.decodeSwitches s.swlatch).writeMode.goto 3) := rfl

/-- Settles O29: the mode written is the one that the decode of SWLATCH gives. -/
theorem modeFollowsTheModePin : Obligations.ModeFollowsTheModePin := by
  unfold Obligations.ModeFollowsTheModePin
  refine ⟨rfl, detects_mcsRow, fun s => ⟨_, exec_mcWrmode s, rfl, rfl, ?_⟩⟩
  simp only [State.decodeSwitches, State.writeMode, State.goto]

/-! ## The two writes of ADDRESS -/

/-- What a step of the ADDRESS write leaves (R204, R205): the piece `p` from the switches, and the successor `n`. -/
def State.stepAddress (s : State) (p : Piece) (n : BitVec 5) : State :=
  ((s.decodeSwitches s.swlatch).writeAddressPiece p).goto n

theorem exec_mcWraddr0 (s : State) : exec .mcWraddr0 s = .next (s.stepAddress (firstPiece s.cfg.addressOrder) 4) := rfl

theorem exec_mcWraddr1 (s : State) : exec .mcWraddr1 s = .next (s.stepAddress (secondPiece s.cfg.addressOrder) 5) := rfl

theorem State.stepAddress_address (s : State) (p : Piece) (n : BitVec 5) :
    (s.stepAddress p n).address = replaceAddressPiece p s.address (switchDecode s.cfg s.swlatch).address := rfl

/-- The step writes the decode's outputs, ADDRESS and MC_STEP, and nothing else. -/
theorem State.stepAddress_frame (s : State) (p : Piece) (n : BitVec 5) :
    { s.stepAddress p n with swSetting := s.swSetting, address := s.address, mcStep := s.mcStep } = s := by
  simp only [State.stepAddress, State.decodeSwitches, State.writeAddressPiece, State.goto]

/-- With the low piece, bits 7..0 come from the switches and bit 8 stays. -/
theorem State.stepAddress_low (s : State) (n : BitVec 5) :
    (∀ k, k < 8 → (s.stepAddress .low n).address.getLsbD k = !s.swlatch.getLsbD k) ∧
    (s.stepAddress .low n).address.getLsbD 8 = s.address.getLsbD 8 := by
  rw [State.stepAddress_address]
  refine ⟨fun k hk => ?_, replaceAddressPiece_low_getLsbD_top _ _⟩
  rw [replaceAddressPiece_low_getLsbD hk, switchDecode_address_getLsbD (by omega)]

/-- With the high piece, bit 8 comes from the switches and bits 7..0 stay. -/
theorem State.stepAddress_high (s : State) (n : BitVec 5) :
    (∀ k, k < 8 → (s.stepAddress .high n).address.getLsbD k = s.address.getLsbD k) ∧
    (s.stepAddress .high n).address.getLsbD 8 = !s.swlatch.getLsbD 8 := by
  rw [State.stepAddress_address, replaceAddressPiece_high]
  refine ⟨fun k hk => replaceAddressPiece_low_getLsbD hk _ _, ?_⟩
  rw [replaceAddressPiece_low_getLsbD_top, switchDecode_address_getLsbD (by decide)]

/-- After both steps, in either byte order, ADDRESS is what the switches say. -/
theorem State.stepAddress_both (s : State) (m n : BitVec 5) :
    ((s.stepAddress (firstPiece s.cfg.addressOrder) m).stepAddress (secondPiece s.cfg.addressOrder) n).address =
      (switchDecode s.cfg s.swlatch).address :=
  replaceAddressPiece_both s.cfg.addressOrder s.address _

/-- Settles O30: each byte order makes one step the low piece's and the other the high piece's. -/
theorem addressIsWrittenInTwoPieces : Obligations.AddressIsWrittenInTwoPieces := by
  unfold Obligations.AddressIsWrittenInTwoPieces
  refine ⟨rfl, rfl, fun s => ⟨detects_mcsRow s, detects_mcsRow s⟩, fun s =>
    ⟨_, _, _, exec_mcWraddr0 s, exec_mcWraddr1 s, execAll_pair (exec_mcWraddr0 s) (exec_mcWraddr1 _), rfl, rfl,
      s.stepAddress_frame _ _, s.stepAddress_frame _ _, fun hlow => ?_, fun hhigh => ?_, fun k hk => ?_, rfl⟩⟩
  · rw [hlow]
    obtain ⟨htake, hkeep⟩ := s.stepAddress_low 4
    obtain ⟨hkeep', htake'⟩ := s.stepAddress_high 5
    exact ⟨htake, hkeep, hkeep', htake'⟩
  · rw [hhigh]
    obtain ⟨hkeep, htake⟩ := s.stepAddress_high 4
    obtain ⟨htake', hkeep'⟩ := s.stepAddress_low 5
    exact ⟨hkeep, htake, htake', hkeep'⟩
  · exact (congrArg (·.getLsbD k) (s.stepAddress_both 4 5)).trans (switchDecode_address_getLsbD hk _ _)

/-! ## The branch and the enables -/

/-- MC.DISPATCH (R206): Fun mode is the other of two modes. -/
theorem exec_mcDispatch (s : State) : exec .mcDispatch s = .next (s.goto (if s.mode = .dmx then 6 else 18)) := by
  cases hmode : s.mode <;> simp [exec, execMcDispatch, hmode]

/-- Settles O31: the branch by `exec_mcDispatch`; the other five rows are one write and the successor. -/
theorem branchAndEnableSteps : Obligations.BranchAndEnableSteps := by
  unfold Obligations.BranchAndEnableSteps
  refine ⟨rfl, rfl, rfl, rfl, rfl, rfl, fun i hi s => ?_, fun s => ⟨exec_mcDispatch s, rfl, rfl, rfl, rfl, rfl⟩⟩
  simp only [List.mem_cons, List.not_mem_nil, or_false] at hi
  rcases hi with rfl | rfl | rfl | rfl | rfl | rfl <;> exact detects_mcsRow s

/-! ## The loss test and its snapshot -/

theorem exec_mcRdto0 (s : State) :
    exec .mcRdto0 s = .next ((s.snapTimeoutPiece (firstPiece s.cfg.timeoutReadOrder)).goto 9) := rfl

theorem exec_mcRdto1 (s : State) :
    exec .mcRdto1 s = .next ((s.snapTimeoutPiece (secondPiece s.cfg.timeoutReadOrder)).goto 10) := rfl

/-- Settles O32: each byte order makes one step the low byte's and the other the high byte's. -/
theorem timeoutIsReadInTwoBytes : Obligations.TimeoutIsReadInTwoBytes := by
  unfold Obligations.TimeoutIsReadInTwoBytes
  refine ⟨rfl, rfl, fun s => ⟨detects_mcsRow s, detects_mcsRow s⟩, fun s =>
    ⟨_, _, exec_mcRdto0 s, exec_mcRdto1 s, rfl, rfl, rfl, rfl, fun hlow => ?_, fun hhigh => ?_⟩⟩
  · rw [hlow]
    exact ⟨replacePiece_low_toNat _ _, replacePiece_high_toNat _ _⟩
  · rw [hhigh]
    exact ⟨replacePiece_high_toNat _ _, replacePiece_low_toNat _ _⟩

/-- X4 (R211) is the unsigned comparison with LOSS_THRESHOLD. -/
theorem signalLost_eq_true {x : Counter} : signalLost x = true ↔ 480 ≤ x.toNat := decide_eq_true_iff

/-- Settles O33: the branch and the condition are the same test. -/
theorem lossIsTestedOnTheSnapshot : Obligations.LossIsTestedOnTheSnapshot := by
  unfold Obligations.LossIsTestedOnTheSnapshot
  refine ⟨rfl, fun s => ⟨?_, if_congr signalLost_eq_true rfl rfl⟩⟩
  exact congrArg (fun n => Host.Outcome.next (s.goto n)) (if_congr signalLost_eq_true rfl rfl)

/-! ## The loss pass -/

theorem exec_mcBlkr (s : State) : exec .mcBlkr s = .next { s with disp := ⟨0, s.disp.g, s.disp.b⟩, mcStep := 12 } := rfl

theorem exec_mcBlkg (s : State) : exec .mcBlkg s = .next { s with disp := ⟨s.disp.r, 0, s.disp.b⟩, mcStep := 13 } := rfl

theorem exec_mcBlkb (s : State) : exec .mcBlkb s = .next { s with disp := ⟨s.disp.r, s.disp.g, 0⟩, mcStep := 14 } := rfl

/-- Settles O34: each row zeroes one byte, and in a row each leaves the bytes that the rows before it zeroed. -/
theorem lossBlacksTheDisplayByteByByte : Obligations.LossBlacksTheDisplayByteByByte := by
  unfold Obligations.LossBlacksTheDisplayByteByByte
  refine ⟨rfl, rfl, rfl, fun s => ⟨detects_mcsRow s, detects_mcsRow s, detects_mcsRow s⟩,
    fun s => ⟨?_, exec_mcBlkr s, exec_mcBlkg s, exec_mcBlkb s⟩⟩
  rw [execAll_cons_of_next (exec_mcBlkr s)]
  exact execAll_pair (exec_mcBlkg _) (exec_mcBlkb _)

/-- The clamp's low byte is 0xE0; the high byte of TIMEOUT stays. -/
theorem State.clampTimeoutPiece_low (s : State) :
    (s.clampTimeoutPiece .low).timeout.toNat = s.timeout.toNat / 256 * 256 + 0xE0 :=
  replacePiece_low_toNat s.timeout (BitVec.ofNat 16 lossThreshold)

/-- The clamp's high byte is 0x01; the low byte of TIMEOUT stays. -/
theorem State.clampTimeoutPiece_high (s : State) :
    (s.clampTimeoutPiece .high).timeout.toNat = 0x0100 + s.timeout.toNat % 256 :=
  replacePiece_high_toNat s.timeout (BitVec.ofNat 16 lossThreshold)

theorem exec_mcClamp0 (s : State) :
    exec .mcClamp0 s = .next ((s.clampTimeoutPiece (firstPiece s.cfg.timeoutWriteOrder)).goto 15) := rfl

theorem exec_mcClamp1 (s : State) :
    exec .mcClamp1 s = .next ((s.clampTimeoutPiece (secondPiece s.cfg.timeoutWriteOrder)).goto 16) := rfl

/-- Settles O35: as O32, and both bytes in a row are the whole threshold. -/
theorem clampWritesTheThresholdInTwoBytes : Obligations.ClampWritesTheThresholdInTwoBytes := by
  unfold Obligations.ClampWritesTheThresholdInTwoBytes
  refine ⟨rfl, rfl, fun s => ⟨detects_mcsRow s, detects_mcsRow s⟩, fun s =>
    ⟨_, _, _, exec_mcClamp0 s, exec_mcClamp1 s, execAll_pair (exec_mcClamp0 s) (exec_mcClamp1 _), rfl, rfl,
      rfl, rfl, fun hlow => ?_, fun hhigh => ?_, ?_, rfl⟩⟩
  · rw [hlow]
    exact ⟨s.clampTimeoutPiece_low, s.clampTimeoutPiece_high⟩
  · rw [hhigh]
    exact ⟨s.clampTimeoutPiece_high, s.clampTimeoutPiece_low⟩
  · exact congrArg BitVec.toNat
      (replacePiece_both s.cfg.timeoutWriteOrder s.timeout (BitVec.ofNat 16 lossThreshold))

/-- Settles O36: a counter's bit is that bit of its value. -/
theorem indicatorCopiesABitOfTick : Obligations.IndicatorCopiesABitOfTick := by
  unfold Obligations.IndicatorCopiesABitOfTick
  exact ⟨rfl, rfl, fun s => ⟨detects_mcsRow s, detects_mcsRow s⟩, fun s => ⟨rfl, rfl⟩⟩

/-! ## The match and mask of the Fun rows, read off the address bits (R110) -/

/-- Two addresses are equal exactly if their nine bits are. -/
theorem address_eq_iff_getLsbD {a v : BitVec 9} : a = v ↔ ∀ k : Fin 9, a.getLsbD k = v.getLsbD k :=
  ⟨fun h _ => h ▸ rfl, fun h => BitVec.eq_of_getLsbD_eq fun k hk => h ⟨k, hk⟩⟩

/-- A match under a mask, bit by bit. -/
theorem and_eq_iff_getLsbD {a m v : BitVec 9} :
    a &&& m = v ↔ ∀ k : Fin 9, (a.getLsbD k && m.getLsbD k) = v.getLsbD k := by
  simp only [address_eq_iff_getLsbD, BitVec.getLsbD_and]

/-! Each mask tests the reserved bits 8 and 7, the row's own bit and the bits below it. -/

theorem rsvd8_match_iff {a : BitVec 9} : a &&& 0x100 = 0x100 ↔ a[8] = true := by
  simp [and_eq_iff_getLsbD, Fin.forall_fin_succ]

theorem rsvd7_match_iff {a : BitVec 9} : a &&& 0x180 = 0x080 ↔ a[7] = true ∧ a[8] = false := by
  simp [and_eq_iff_getLsbD, Fin.forall_fin_succ]

theorem red_match_iff {a : BitVec 9} : a &&& 0x181 = 0x001 ↔ a[0] = true ∧ a[7] = false ∧ a[8] = false := by
  simp [and_eq_iff_getLsbD, Fin.forall_fin_succ]

theorem green_match_iff {a : BitVec 9} : a &&& 0x183 = 0x002 ↔
    a[0] = false ∧ a[1] = true ∧ a[7] = false ∧ a[8] = false := by
  simp [and_eq_iff_getLsbD, Fin.forall_fin_succ]

theorem blue_match_iff {a : BitVec 9} : a &&& 0x187 = 0x004 ↔
    a[0] = false ∧ a[1] = false ∧ a[2] = true ∧ a[7] = false ∧ a[8] = false := by
  simp [and_eq_iff_getLsbD, Fin.forall_fin_succ]

theorem yellow_match_iff {a : BitVec 9} : a &&& 0x18F = 0x008 ↔
    a[0] = false ∧ a[1] = false ∧ a[2] = false ∧ a[3] = true ∧ a[7] = false ∧ a[8] = false := by
  simp [and_eq_iff_getLsbD, Fin.forall_fin_succ]

theorem magenta_match_iff {a : BitVec 9} : a &&& 0x19F = 0x010 ↔
    a[0] = false ∧ a[1] = false ∧ a[2] = false ∧ a[3] = false ∧ a[4] = true ∧ a[7] = false ∧ a[8] = false := by
  simp [and_eq_iff_getLsbD, Fin.forall_fin_succ]

theorem cyan_match_iff {a : BitVec 9} : a &&& 0x1BF = 0x020 ↔
    a[0] = false ∧ a[1] = false ∧ a[2] = false ∧ a[3] = false ∧ a[4] = false ∧ a[5] = true ∧
      a[7] = false ∧ a[8] = false := by
  simp [and_eq_iff_getLsbD, Fin.forall_fin_succ]

theorem white_match_iff {a : BitVec 9} : a = 0x040 ↔
    a[0] = false ∧ a[1] = false ∧ a[2] = false ∧ a[3] = false ∧ a[4] = false ∧ a[5] = false ∧
      a[6] = true ∧ a[7] = false ∧ a[8] = false := by
  simp [address_eq_iff_getLsbD, Fin.forall_fin_succ]

theorem black_match_iff {a : BitVec 9} : a = 0x000 ↔
    a[0] = false ∧ a[1] = false ∧ a[2] = false ∧ a[3] = false ∧ a[4] = false ∧ a[5] = false ∧
      a[6] = false ∧ a[7] = false ∧ a[8] = false := by
  simp [address_eq_iff_getLsbD, Fin.forall_fin_succ]

/-! ## The row that an address selects -/

/-- An address matches a Fun row under its mask (R110). -/
def matchesAddress : Instr → BitVec 9 → Prop
  | .funRsvd8 _, a => a &&& 0x100 = 0x100
  | .funRsvd7 _, a => a &&& 0x180 = 0x080
  | .funRed _, a => a &&& 0x181 = 0x001
  | .funGreen _, a => a &&& 0x183 = 0x002
  | .funBlue _, a => a &&& 0x187 = 0x004
  | .funYellow _, a => a &&& 0x18F = 0x008
  | .funMagenta _, a => a &&& 0x19F = 0x010
  | .funCyan _, a => a &&& 0x1BF = 0x020
  | .funWhite, a => a = 0x040
  | .funBlack, a => a = 0x000
  | _, _ => False

/-- A Fun row with the bits that it ignores taken from an address. -/
def withIgnoredBits : Instr → BitVec 9 → Instr
  | .funRsvd8 _, a => .funRsvd8 (a.extractLsb' 0 8)
  | .funRsvd7 _, a => .funRsvd7 (a.extractLsb' 0 7)
  | .funRed _, a => .funRed (a.extractLsb' 1 6)
  | .funGreen _, a => .funGreen (a.extractLsb' 2 5)
  | .funBlue _, a => .funBlue (a.extractLsb' 3 4)
  | .funYellow _, a => .funYellow (a.extractLsb' 4 3)
  | .funMagenta _, a => .funMagenta (a.extractLsb' 5 2)
  | .funCyan _, a => .funCyan (a.extractLsb' 6 1)
  | i, _ => i

/-- One test of the decoder's chain: where a test succeeds its row matches. -/
theorem matchesAddress_ite {c : Prop} [Decidable c] {i j : Instr} {a : BitVec 9} (hpos : c → matchesAddress i a)
    (hneg : ¬ c → matchesAddress j a) : matchesAddress (if c then i else j) a :=
  iteInduction (motive := (matchesAddress · a)) hpos hneg

/-- The rows cover every address: the one that the decoder selects matches it, FUN.BLACK because no test succeeded. -/
theorem decodeFun_matches (a : BitVec 9) : matchesAddress (decodeFun a) a := by
  refine matchesAddress_ite id fun h8 => matchesAddress_ite id fun h7 => matchesAddress_ite id fun hred =>
    matchesAddress_ite id fun hgreen => matchesAddress_ite id fun hblue => matchesAddress_ite id fun hyellow =>
    matchesAddress_ite id fun hmagenta => matchesAddress_ite id fun hcyan => matchesAddress_ite id fun hwhite => ?_
  rw [rsvd8_match_iff] at h8
  rw [rsvd7_match_iff] at h7
  rw [red_match_iff] at hred
  rw [green_match_iff] at hgreen
  rw [blue_match_iff] at hblue
  rw [yellow_match_iff] at hyellow
  rw [magenta_match_iff] at hmagenta
  rw [cyan_match_iff] at hcyan
  rw [white_match_iff] at hwhite
  exact black_match_iff.mpr (by grind)

/-- The row that the decoder selects is one that the address matches. -/
theorem matches_of_decodeFun {i : Instr} {a : BitVec 9} (h : decodeFun a = i) : matchesAddress i a :=
  h ▸ decodeFun_matches a

/-- The rows are disjoint: the decoder selects the one that an address matches, whichever others it tests before. -/
theorem decodeFun_of_matches {i : Instr} {a : BitVec 9} (h : matchesAddress i a) :
    decodeFun a = withIgnoredBits i a := by
  unfold decodeFun
  simp only [rsvd8_match_iff, rsvd7_match_iff, red_match_iff, green_match_iff, blue_match_iff, yellow_match_iff,
    magenta_match_iff, cyan_match_iff, white_match_iff]
  cases i
  case funRsvd8 => simp [withIgnoredBits, rsvd8_match_iff.mp h]
  case funRsvd7 => simp [withIgnoredBits, rsvd7_match_iff.mp h]
  case funRed => simp [withIgnoredBits, red_match_iff.mp h]
  case funGreen => simp [withIgnoredBits, green_match_iff.mp h]
  case funBlue => simp [withIgnoredBits, blue_match_iff.mp h]
  case funYellow => simp [withIgnoredBits, yellow_match_iff.mp h]
  case funMagenta => simp [withIgnoredBits, magenta_match_iff.mp h]
  case funCyan => simp [withIgnoredBits, cyan_match_iff.mp h]
  case funWhite => simp [withIgnoredBits, white_match_iff.mp h]
  case funBlack => simp [withIgnoredBits, black_match_iff.mp h]
  all_goals exact h.elim

/-- A row that an address matches writes the colour that the priorities of R226 give the address. -/
theorem exec_of_matches {i : Instr} {a : BitVec 9} (h : matchesAddress i a) (s : State) :
    exec i s = .next (s.setFuncol (funColour a)) := by
  cases i
  case funRsvd8 => rw [show funColour a = placeholder by simp [funColour, rsvd8_match_iff.mp h]]; rfl
  case funRsvd7 => rw [show funColour a = placeholder by simp [funColour, rsvd7_match_iff.mp h]]; rfl
  case funRed => rw [show funColour a = ⟨255, 0, 0⟩ by simp [funColour, red_match_iff.mp h]]; rfl
  case funGreen => rw [show funColour a = ⟨0, 255, 0⟩ by simp [funColour, green_match_iff.mp h]]; rfl
  case funBlue => rw [show funColour a = ⟨0, 0, 255⟩ by simp [funColour, blue_match_iff.mp h]]; rfl
  case funYellow => rw [show funColour a = ⟨255, 255, 0⟩ by simp [funColour, yellow_match_iff.mp h]]; rfl
  case funMagenta => rw [show funColour a = ⟨255, 0, 255⟩ by simp [funColour, magenta_match_iff.mp h]]; rfl
  case funCyan => rw [show funColour a = ⟨0, 255, 255⟩ by simp [funColour, cyan_match_iff.mp h]]; rfl
  case funWhite => rw [show funColour a = ⟨255, 255, 255⟩ by simp [funColour, white_match_iff.mp h]]; rfl
  case funBlack => rw [show funColour a = Colour.black by simp [funColour, black_match_iff.mp h]]; rfl
  all_goals exact h.elim

/-- MC.FUNDEC runs the row that the decoder selects. -/
theorem funRow_eq_exec_decodeFun (a : BitVec 9) (s : State) : funRow a s = exec (decodeFun a) s := by
  unfold funRow decodeFun
  simp only [apply_ite (exec · s)]
  rfl

/-- MC.FUNDEC (R222): the colour of the address, and the successor. -/
theorem exec_mcFundec (s : State) : exec .mcFundec s = .next ((s.setFuncol (funColour s.address)).goto 22) := by
  change andThen (funRow s.address s) _ = _
  rw [funRow_eq_exec_decodeFun, exec_of_matches (decodeFun_matches s.address)]
  rfl

/-- Settles O37: the row that the address matches writes the colour of the priorities. -/
theorem funDecodeFollowsThePriorities : Obligations.FunDecodeFollowsThePriorities := by
  unfold Obligations.FunDecodeFollowsThePriorities
  exact ⟨rfl, fun s => detects_mcsRow s, exec_mcFundec⟩

/-- Settles O38: the decoder selects the row that an address matches, and an address matches the row it selects. -/
theorem funRowsByMatchAndMask : Obligations.FunRowsByMatchAndMask := by
  unfold Obligations.FunRowsByMatchAndMask
  refine ⟨fun i s hi => detects_fun9Row hi s, fun a s =>
    ⟨fun _ => rfl, fun _ => rfl, fun _ => rfl, fun _ => rfl, fun _ => rfl, fun _ => rfl, fun _ => rfl, fun _ => rfl,
      rfl, rfl, ?_, ?_, ?_, ?_, ?_, ?_, ?_, ?_, ?_, ?_⟩⟩
  · exact ⟨fun h => ⟨_, decodeFun_of_matches (i := .funRsvd8 0) h⟩, fun ⟨_, hrow⟩ => matches_of_decodeFun hrow⟩
  · exact ⟨fun h => ⟨_, decodeFun_of_matches (i := .funRsvd7 0) h⟩, fun ⟨_, hrow⟩ => matches_of_decodeFun hrow⟩
  · exact ⟨fun h => ⟨_, decodeFun_of_matches (i := .funRed 0) h⟩, fun ⟨_, hrow⟩ => matches_of_decodeFun hrow⟩
  · exact ⟨fun h => ⟨_, decodeFun_of_matches (i := .funGreen 0) h⟩, fun ⟨_, hrow⟩ => matches_of_decodeFun hrow⟩
  · exact ⟨fun h => ⟨_, decodeFun_of_matches (i := .funBlue 0) h⟩, fun ⟨_, hrow⟩ => matches_of_decodeFun hrow⟩
  · exact ⟨fun h => ⟨_, decodeFun_of_matches (i := .funYellow 0) h⟩, fun ⟨_, hrow⟩ => matches_of_decodeFun hrow⟩
  · exact ⟨fun h => ⟨_, decodeFun_of_matches (i := .funMagenta 0) h⟩, fun ⟨_, hrow⟩ => matches_of_decodeFun hrow⟩
  · exact ⟨fun h => ⟨_, decodeFun_of_matches (i := .funCyan 0) h⟩, fun ⟨_, hrow⟩ => matches_of_decodeFun hrow⟩
  · exact ⟨decodeFun_of_matches (i := .funWhite), matches_of_decodeFun⟩
  · exact ⟨decodeFun_of_matches (i := .funBlack), matches_of_decodeFun⟩

/-! ## The Fun pass writes the display -/

/-- Settles O39: each row copies one byte of FUNCOL. -/
theorem funColourIsWrittenByteByByte : Obligations.FunColourIsWrittenByteByByte := by
  unfold Obligations.FunColourIsWrittenByteByByte
  exact ⟨rfl, rfl, rfl, fun s => ⟨detects_mcsRow s, detects_mcsRow s, detects_mcsRow s⟩, fun s => ⟨rfl, rfl, rfl⟩⟩

end Sys2Proof.Machine

/-! The statements on the encoding (R91 to R122): each decode site's decoder and the encoder undo each other. -/

namespace Sys2Proof.Machine

open Sys2Proof

/-! ## The decoder of each site (R91) -/

theorem decode_phase {w : StimWord} (h : w.toNat < 2 ^ 8) : decode .phase w = decodePhase (w.setWidth 8) :=
  if_neg (Nat.not_le.mpr h)

theorem decode_rxc {w : StimWord} (h : w.toNat < 2 ^ 9) : decode .rxc w = .ok (decodeRxc (w.setWidth 9)) :=
  if_neg (Nat.not_le.mpr h)

theorem decode_mcs {w : StimWord} (h : w.toNat < 2 ^ 5) : decode .mcs w = decodeMcs (w.setWidth 5) :=
  if_neg (Nat.not_le.mpr h)

theorem decode_fun9 {w : StimWord} (h : w.toNat < 2 ^ 9) : decode .fun9 w = .ok (decodeFun (w.setWidth 9)) :=
  if_neg (Nat.not_le.mpr h)

theorem decode_sww {w : StimWord} (h : w.toNat < 2 ^ 10) : decode .sww w = .ok (decodeSww (w.setWidth 10)) :=
  if_neg (Nat.not_le.mpr h)

theorem decode_evt (w : StimWord) : decode .evt w = decodeStimulus w := if_neg (Nat.not_le.mpr w.isLt)

/-- A word that is too wide for a site decodes to nothing there. -/
theorem fits_of_decode {site : Site} {w : StimWord} {i : Instr} (h : decode site w = .ok i) : w.toNat < 2 ^ site.width := by
  by_contra hwide
  cases (if_pos (Nat.not_lt.mp hwide)).symm.trans h

/-- The word of an operation fits its format. -/
theorem encode_fits (i : Instr) : (encode i).toNat < 2 ^ i.site.width := by
  open Laws.EncodeFits in
  cases i
  exacts [pwmP7, pwmP6, pwmP5, pwmP4, pwmP3, pwmP2, pwmP1, pwmP0, rxBreak, rxFerr _, rxData _, mcKick, mcRdsw, mcWrmode,
    mcWraddr0, mcWraddr1, mcDispatch, mcIetmr1, mcIerx1, mcRdto0, mcRdto1, mcTest, mcBlkr, mcBlkg, mcBlkb, mcClamp0,
    mcClamp1, mcLedslow, mcLedfast, mcFietmr1, mcIerx0, mcLedon, mcFundec, mcFunr, mcFung, mcFunb, funRsvd8 _,
    funRsvd7 _, funRed _, funGreen _, funBlue _, funYellow _, funMagenta _, funCyan _, funWhite, funBlack,
    swDecode _ _ _, tmr, rxc _ _, poll, mstep, sw _, wdtx, por]

/-! ## Words carried in wider words -/

/-- Carrying a narrow word zero-extended and reading it back (R121). -/
theorem setWidth_setWidth_of_narrow {n m : Nat} (h : n ≤ m) (x : BitVec n) : (x.setWidth m).setWidth n = x :=
  (BitVec.setWidth_setWidth_of_le x h).trans (BitVec.setWidth_eq x)

theorem setWidth_inj {n m : Nat} (h : n ≤ m) {x y : BitVec n} : x.setWidth m = y.setWidth m ↔ x = y :=
  ⟨fun hxy => by simpa only [setWidth_setWidth_of_narrow h] using congrArg (·.setWidth n) hxy, fun hxy => hxy ▸ rfl⟩

/-- A word that fits `n` bits is what its low `n` bits carry. -/
theorem setWidth_setWidth_of_fits {n m : Nat} {w : BitVec m} (h : w.toNat < 2 ^ n) : (w.setWidth n).setWidth m = w := by
  apply BitVec.eq_of_toNat_eq
  rw [BitVec.toNat_setWidth, BitVec.toNat_setWidth, Nat.mod_eq_of_lt h, Nat.mod_eq_of_lt w.isLt]

/-- Words put together from pieces of the same widths are equal exactly if the pieces are. -/
theorem append_eq_append_iff {k n : Nat} {x u : BitVec k} {y v : BitVec n} : x ++ y = u ++ v ↔ x = u ∧ y = v := by
  refine ⟨fun h => ⟨?_, ?_⟩, fun ⟨hx, hy⟩ => hx ▸ hy ▸ rfl⟩
  · simpa only [BitVec.extractLsb'_append_eq_left] using congrArg (·.extractLsb' n k) h
  · simpa only [BitVec.extractLsb'_append_eq_right] using congrArg (·.extractLsb' 0 n) h

/-- A match and mask on the upper `k` bits of a word: they are the match value, and the bits below are free. -/
theorem highMask_match_iff {k n : Nat} {x : BitVec (k + n)} {v : BitVec k} :
    x &&& (BitVec.allOnes k ++ 0#n) = v ++ 0#n ↔ x = v ++ x.extractLsb' 0 n := by
  have hmask : x &&& (BitVec.allOnes k ++ 0#n) = x.extractLsb' n k ++ 0#n := by
    conv_lhs => rw [← BitVec.extractLsb'_append_extractLsb' (x := x)]
    rw [BitVec.and_append, BitVec.and_allOnes, BitVec.and_zero]
  conv_rhs => lhs; rw [← BitVec.extractLsb'_append_extractLsb' (x := x)]
  rw [hmask, BitVec.append_left_inj, BitVec.append_left_inj]

/-- The same match as a test of the value's range. -/
theorem highMask_match_iff_toNat {k n : Nat} {x : BitVec (k + n)} {v : BitVec k} :
    x &&& (BitVec.allOnes k ++ 0#n) = v ++ 0#n ↔ x.toNat / 2 ^ n = v.toNat := by
  have hhigh : (x.extractLsb' n k).toNat = x.toNat / 2 ^ n := by
    rw [BitVec.extractLsb'_toNat, Nat.shiftRight_eq_div_pow, Nat.mod_eq_of_lt]
    exact Nat.div_lt_of_lt_mul (Nat.lt_of_lt_of_eq x.isLt (by rw [Nat.add_comm, pow_add]))
  rw [highMask_match_iff, ← hhigh, BitVec.toNat_inj]
  conv_lhs => lhs; rw [← BitVec.extractLsb'_append_extractLsb' (x := x)]
  rw [BitVec.append_left_inj]

/-- The bit that stands above a word. -/
theorem getLsbD_ofBool_append {n : Nat} (b : Bool) (x : BitVec n) : (BitVec.ofBool b ++ x).getLsbD n = b := by
  rw [BitVec.getLsbD_append, if_neg (Nat.lt_irrefl n), Nat.sub_self]
  cases b <;> rfl

/-- A bit as a word of its own. -/
theorem ofBool_getLsbD {n : Nat} (x : BitVec n) (k : Nat) : BitVec.ofBool (x.getLsbD k) = x.extractLsb' k 1 := by
  ext i hi
  obtain rfl : i = 0 := by omega
  simp

/-! ## Stimulus words (R122) -/

theorem toNat_charWord (f : Bool) (d : Byte) : (charWord f d).toNat = 256 * f.toNat + d.toNat := by
  rw [charWord, BitVec.toNat_append, ← Nat.shiftLeft_add_eq_or_of_lt d.isLt, Nat.shiftLeft_eq, BitVec.toNat_ofBool]
  omega

theorem toNat_encode_rxc (f : Bool) (d : Byte) : (encode (.rxc f d)).toNat = 0x2000 + 256 * f.toNat + d.toNat := by
  rw [encode, BitVec.toNat_append, ← Nat.shiftLeft_add_eq_or_of_lt (charWord f d).isLt, toNat_charWord]
  simp
  omega

theorem toNat_encode_sw (w : BitVec 10) : (encode (.sw w)).toNat = 0x4000 + w.toNat := by
  rw [encode, BitVec.toNat_append, ← Nat.shiftLeft_add_eq_or_of_lt w.isLt]
  rfl

theorem rxcClass_iff {w : StimWord} : w &&& 0xFE00 = 0x2000 ↔ w.toNat / 512 = 16 :=
  highMask_match_iff_toNat (k := 7) (n := 9) (v := 0b0010000#7)

theorem swClass_iff {w : StimWord} : w &&& 0xFC00 = 0x4000 ↔ w.toNat / 1024 = 16 :=
  highMask_match_iff_toNat (k := 6) (n := 10) (v := 0b010000#6)

/-- The two classes with an argument, by the range of their words. -/
theorem decodeStimulus_of_rxcClass {w : StimWord} (h : w.toNat / 512 = 16) :
    decodeStimulus w = .ok (.rxc (w.getLsbD 8) (w.extractLsb' 0 8)) := by
  have hne : w ≠ 0x1000 := fun hw => by subst hw; cases h
  rw [decodeStimulus, if_neg hne, if_pos (rxcClass_iff.mpr h)]

theorem decodeStimulus_of_swClass {w : StimWord} (h : w.toNat / 1024 = 16) :
    decodeStimulus w = .ok (.sw (w.extractLsb' 0 10)) := by
  have hrxc : ¬ w &&& 0xFE00 = 0x2000 := rxcClass_iff.not.mpr (by omega)
  have hne (v : StimWord) (hv : v.toNat / 1024 ≠ 16) : w ≠ v := fun hw => hv (hw ▸ h)
  rw [decodeStimulus, if_neg (hne _ (by decide)), if_neg hrxc, if_neg (hne _ (by decide)), if_neg (hne _ (by decide)),
    if_pos (swClass_iff.mpr h)]

/-- The word of a stimulus decodes to it. -/
theorem decodeStimulus_encode {i : Instr} (hi : i.site = .evt) : decodeStimulus (encode i) = .ok i := by
  cases i <;> cases hi
  case rxc f d =>
    have hclass : (encode (.rxc f d)).toNat / 512 = 16 := by
      rw [toNat_encode_rxc]
      have := f.toNat_lt
      omega
    have hflag : (encode (.rxc f d)).getLsbD 8 = f :=
      BitVec.getLsbD_append.trans (getLsbD_ofBool_append f d)
    have hdata : (encode (.rxc f d)).extractLsb' 0 8 = d := by
      rw [encode, BitVec.extractLsb'_append_eq_of_add_le (by decide), charWord_dataBits]
    rw [decodeStimulus_of_rxcClass hclass, hflag, hdata]
  case sw w =>
    have hclass : (encode (.sw w)).toNat / 1024 = 16 := by
      rw [toNat_encode_sw]
      omega
    rw [decodeStimulus_of_swClass hclass, encode, BitVec.extractLsb'_append_eq_right]
  all_goals rfl

/-- Whatever the stimulus decoder takes is a stimulus, and the word is its own. -/
theorem encode_of_decodeStimulus {w : StimWord} {i : Instr} (h : decodeStimulus w = .ok i) :
    i.site = .evt ∧ i.wf = true ∧ encode i = w := by
  unfold decodeStimulus at h
  split_ifs at h with htmr hrxc hpoll hmstep hsw hwdtx hpor <;> cases h
  case pos => exact ⟨rfl, rfl, htmr.symm⟩
  case pos =>
    refine ⟨rfl, rfl, BitVec.eq_of_toNat_eq ?_⟩
    have hclass := rxcClass_iff.mp hrxc
    have hflag : (w.getLsbD 8).toNat = w.toNat / 2 ^ 8 % 2 := Nat.toNat_testBit _ _
    have hdata : (w.extractLsb' 0 8).toNat = w.toNat % 2 ^ 8 := by simp
    rw [toNat_encode_rxc, hflag, hdata]
    omega
  case pos => exact ⟨rfl, rfl, hpoll.symm⟩
  case pos => exact ⟨rfl, rfl, hmstep.symm⟩
  case pos =>
    refine ⟨rfl, rfl, BitVec.eq_of_toNat_eq ?_⟩
    have hclass := swClass_iff.mp hsw
    have hpins : (w.extractLsb' 0 10).toNat = w.toNat % 2 ^ 10 := by simp
    rw [toNat_encode_sw, hpins]
    omega
  case pos => exact ⟨rfl, rfl, hwdtx.symm⟩
  case pos => exact ⟨rfl, rfl, hpor.symm⟩

/-- A stimulus has one word, and that word is no other stimulus's. -/
theorem decodeStimulus_eq_ok_iff {w : StimWord} {i : Instr} (hi : i.site = .evt) :
    decodeStimulus w = .ok i ↔ w = encode i :=
  ⟨fun h => (encode_of_decodeStimulus h).2.2.symm, fun h => h ▸ decodeStimulus_encode hi⟩

/-- Settles O5: a class with one word by that word, the two with an argument by their value, and the rest by elimination. -/
theorem stimulusDecoderTakesTheSevenClassesOnly : Obligations.StimulusDecoderTakesTheSevenClassesOnly := by
  unfold Obligations.StimulusDecoderTakesTheSevenClassesOnly
  refine ⟨fun _ => decodeStimulus_eq_ok_iff rfl, fun w f d => ?_, fun _ => decodeStimulus_eq_ok_iff rfl,
    fun _ => decodeStimulus_eq_ok_iff rfl, fun w v => ?_, fun _ => decodeStimulus_eq_ok_iff rfl,
    fun _ => decodeStimulus_eq_ok_iff rfl, fun w htmr hrxc hpoll hmstep hsw hwdtx hpor => ?_⟩
  · rw [decodeStimulus_eq_ok_iff rfl, ← BitVec.toNat_inj, toNat_encode_rxc]
  · rw [decodeStimulus_eq_ok_iff rfl, ← BitVec.toNat_inj, toNat_encode_sw]
  · rw [decodeStimulus, if_neg htmr, if_neg (rxcClass_iff.not.mpr hrxc), if_neg hpoll, if_neg hmstep,
      if_neg (swClass_iff.not.mpr hsw), if_neg hwdtx, if_neg hpor]

/-! ## SWL and FRAME (R125, R126) -/

/-- The pins that SWL sets are read back as the mode and the address (R237). -/
theorem switchDecode_of_pins (c : Config) (pin : Bool) (a : BitVec 9) :
    switchDecode c (BitVec.ofBool pin ++ ~~~a) = ⟨if pin = c.modePinDmx then .dmx else .funMode, a⟩ := by
  have hpin : (BitVec.ofBool pin ++ ~~~a).getLsbD 9 = pin := getLsbD_ofBool_append pin _
  have haddr : (BitVec.ofBool pin ++ ~~~a).extractLsb' 0 9 = ~~~a := BitVec.extractLsb'_append_eq_right
  rw [switchDecode, hpin, haddr, BitVec.not_not]

theorem accepted_byteWord (d : Byte) : accepted (decodeStimulus (byteWord d)) = some (.rxc false d) :=
  congrArg accepted (decodeStimulus_encode rfl)

theorem accepted_brkWord : accepted (decodeStimulus brkWord) = some (.rxc true 0) :=
  congrArg accepted (decodeStimulus_encode rfl)

/-- Settles O6: the words of SWL and FRAME are encodings, so the decoder reads them back. -/
theorem notationExpandsToItsStimuli : Obligations.NotationExpandsToItsStimuli := by
  unfold Obligations.NotationExpandsToItsStimuli
  refine ⟨fun c m a => ⟨_, decodeStimulus_encode (i := .sw _) rfl, ?_⟩, fun sc slots => ?_⟩
  · rw [switchDecode_of_pins]
    cases m <;> simp
  · rw [frameWords, List.map_cons, List.map_cons, List.map_map, accepted_brkWord, accepted_byteWord]
    exact congrArg _ (congrArg _ (List.map_congr_left fun d _ => accepted_byteWord d))

/-! ## PHASE, MC_STEP and switch words -/

theorem decodePhase_encode {i : Instr} (hi : i.site = .phase) : decodePhase ((encode i).setWidth 8) = .ok i := by
  cases i <;> cases hi <;> rfl

theorem encode_of_decodePhase {p : Byte} {i : Instr} (h : decodePhase p = .ok i) :
    i.site = .phase ∧ i.wf = true ∧ encode i = p.setWidth 16 := by
  unfold decodePhase at h
  split_ifs at h with h7 h6 h5 h4 h3 h2 h1 h0 <;> cases h <;> subst p <;> exact ⟨rfl, rfl, rfl⟩

theorem decodeMcs_encode {i : Instr} (hi : i.site = .mcs) : decodeMcs ((encode i).setWidth 5) = .ok i := by
  cases i <;> cases hi <;> rfl

theorem encode_of_decodeMcs {n : BitVec 5} {i : Instr} (h : decodeMcs n = .ok i) :
    i.site = .mcs ∧ i.wf = true ∧ encode i = n.setWidth 16 := by
  unfold decodeMcs at h
  split at h <;> cases h <;> rename_i hn <;> exact ⟨rfl, rfl, BitVec.eq_of_toNat_eq (by simp [encode, hn])⟩

/-- The three fields of a switch word (R106), read back. -/
theorem decodeSww_switchWord (m : Bool) (h : BitVec 8) (a : Bool) :
    decodeSww (switchWord m h a) = .swDecode m h a := by
  have hmode : (switchWord m h a).getLsbD 9 = m := BitVec.getLsbD_append.trans (getLsbD_ofBool_append m h)
  have hhigh : (switchWord m h a).extractLsb' 1 8 = h := by
    rw [switchWord, BitVec.extractLsb'_append_eq_of_le (by decide)]
    exact BitVec.extractLsb'_append_eq_right
  have hlow : (switchWord m h a).getLsbD 0 = a := by
    rw [switchWord, BitVec.getLsbD_append]
    cases a <;> rfl
  rw [decodeSww, hmode, hhigh, hlow]

/-- A switch word is made of its three fields. -/
theorem switchWord_pieces (w : BitVec 10) : switchWord (w.getLsbD 9) (w.extractLsb' 1 8) (w.getLsbD 0) = w := by
  rw [switchWord, ofBool_getLsbD, ofBool_getLsbD,
    BitVec.extractLsb'_append_extractLsb'_eq_extractLsb' (start₁ := 1) (len₁ := 8) rfl]
  exact BitVec.extractLsb'_append_extractLsb' (w := 9) (len := 1)

theorem decodeSww_encode {i : Instr} (hi : i.site = .sww) : decodeSww ((encode i).setWidth 10) = i := by
  cases i <;> cases hi
  case swDecode m h a => rw [encode, setWidth_setWidth_of_narrow (by decide), decodeSww_switchWord]

theorem encode_decodeSww (w : BitVec 10) : encode (decodeSww w) = w.setWidth 16 := by
  rw [decodeSww, encode, switchWord_pieces]

/-! ## Characters (R93) -/

/-- A character's word is made of its flag and its data. -/
theorem charWord_pieces (w : BitVec 9) : charWord (w.getLsbD 8) (w.extractLsb' 0 8) = w := by
  rw [charWord, ofBool_getLsbD]
  exact append_pieces (n := 1) w

/-- The row of a character is well-formed and has the character's word. -/
theorem encode_of_decodeRxc (w : BitVec 9) :
    (decodeRxc w).site = .rxc ∧ (decodeRxc w).wf = true ∧ encode (decodeRxc w) = w.setWidth 16 := by
  obtain ⟨f, d, rfl⟩ : ∃ f d, w = charWord f d := ⟨_, _, (charWord_pieces w).symm⟩
  rw [everyCharacterSelectsOneOperation]
  by_cases hbreak : f = true ∧ d = 0
  · rw [if_pos hbreak]
    obtain ⟨rfl, rfl⟩ := hbreak
    exact ⟨rfl, rfl, rfl⟩
  · rw [if_neg hbreak]
    cases f with
    | true => exact ⟨rfl, bne_iff_ne.mpr fun hd => hbreak ⟨rfl, hd⟩, rfl⟩
    | false => exact ⟨rfl, rfl, rfl⟩

theorem decodeRxc_encode {i : Instr} (hi : i.site = .rxc) (hwf : i.wf = true) : decodeRxc ((encode i).setWidth 9) = i := by
  cases i <;> cases hi
  case rxBreak => rfl
  case rxFerr d =>
    have hd : ¬ d = 0 := bne_iff_ne.mp hwf
    rw [encode, setWidth_setWidth_of_narrow (by decide), everyCharacterSelectsOneOperation, if_neg (hd ·.2), if_pos rfl]
  case rxData d =>
    rw [encode, setWidth_setWidth_of_narrow (by decide), everyCharacterSelectsOneOperation]
    rfl

/-! ## Rows of the Fun colour decode (R110) -/

/-- A match and mask that leaves the middle bits of a word free. -/
theorem outerMask_match_iff {j m k : Nat} {a : BitVec (j + (m + k))} {c : BitVec k} :
    a &&& (BitVec.allOnes j ++ (0#m ++ BitVec.allOnes k)) = 0#j ++ (0#m ++ c) ↔
      a = 0#j ++ ((a.extractLsb' k m) ++ c) := by
  obtain ⟨h, x, y, rfl⟩ : ∃ (h : BitVec j) (x : BitVec m) (y : BitVec k), a = h ++ (x ++ y) :=
    ⟨a.extractLsb' (m + k) j, (a.extractLsb' 0 (m + k)).extractLsb' k m, (a.extractLsb' 0 (m + k)).extractLsb' 0 k, by
      rw [BitVec.extractLsb'_append_extractLsb', BitVec.extractLsb'_append_extractLsb']⟩
  have hmid : (h ++ (x ++ y)).extractLsb' k m = x := by
    rw [BitVec.extractLsb'_append_eq_of_add_le (by omega), BitVec.extractLsb'_append_eq_left]
  rw [hmid, BitVec.and_append, BitVec.and_append, BitVec.and_allOnes, BitVec.and_allOnes, BitVec.and_zero,
    append_eq_append_iff, append_eq_append_iff, append_eq_append_iff, append_eq_append_iff, eq_self_iff_true, true_and,
    eq_self_iff_true, true_and]

/-- A row with `k` tested low bits `c` and `m` ignored ones above them: an address matches exactly if the row's word is it. -/
theorem outerMask_match_iff_word {m k : Nat} {a : BitVec (2 + (m + k))} {c : BitVec k} (h : 2 + (m + k) ≤ 16) :
    a &&& (BitVec.allOnes 2 ++ (0#m ++ BitVec.allOnes k)) = 0#2 ++ (0#m ++ c) ↔
      (a.extractLsb' k m ++ c).setWidth 16 = a.setWidth 16 := by
  have hzero : (0#2 ++ (a.extractLsb' k m ++ c)).setWidth 16 = (a.extractLsb' k m ++ c).setWidth 16 := by
    apply BitVec.eq_of_toNat_eq
    rw [BitVec.toNat_setWidth, BitVec.toNat_setWidth, BitVec.toNat_append (x := 0#2)]
    simp
  rw [outerMask_match_iff, ← hzero, setWidth_inj h, eq_comm]

/-- An address matches a Fun row exactly if it is the row's word, the ignored bits being the address's own (R110). -/
theorem matchesAddress_iff_word {i : Instr} (hi : i.site = .fun9) {a : BitVec 9} :
    matchesAddress i a ↔ encode (withIgnoredBits i a) = a.setWidth 16 := by
  have hword (v : BitVec 9) : a = v ↔ v.setWidth 16 = a.setWidth 16 := eq_comm.trans (setWidth_inj (by decide)).symm
  cases i <;> cases hi
  case funRsvd8 => exact (highMask_match_iff (k := 1) (n := 8) (v := 0b1#1)).trans (hword _)
  case funRsvd7 => exact (highMask_match_iff (k := 2) (n := 7) (v := 0b01#2)).trans (hword _)
  case funRed => exact outerMask_match_iff_word (m := 6) (c := 0b1#1) (by decide)
  case funGreen => exact outerMask_match_iff_word (m := 5) (c := 0b10#2) (by decide)
  case funBlue => exact outerMask_match_iff_word (m := 4) (c := 0b100#3) (by decide)
  case funYellow => exact outerMask_match_iff_word (m := 3) (c := 0b1000#4) (by decide)
  case funMagenta => exact outerMask_match_iff_word (m := 2) (c := 0b10000#5) (by decide)
  case funCyan => exact outerMask_match_iff_word (m := 1) (c := 0b100000#6) (by decide)
  case funWhite => exact hword _
  case funBlack => exact hword _

/-- The ignored bits are read back from the row's word. -/
theorem withIgnoredBits_encode {i : Instr} (hi : i.site = .fun9) : withIgnoredBits i ((encode i).setWidth 9) = i := by
  have hcarry {n : Nat} (x : BitVec n) (k m : Nat) (h : k + m ≤ 9) :
      ((x.setWidth 16).setWidth 9).extractLsb' k m = x.extractLsb' k m := by
    rw [BitVec.extractLsb'_setWidth_of_le h, BitVec.extractLsb'_setWidth_of_le (by omega)]
  cases i <;> cases hi
  case funRsvd8 x => exact congrArg _ ((hcarry (0b1#1 ++ x) _ _ (by decide)).trans BitVec.extractLsb'_append_eq_right)
  case funRsvd7 x => exact congrArg _ ((hcarry (0b01#2 ++ x) _ _ (by decide)).trans BitVec.extractLsb'_append_eq_right)
  case funRed x => exact congrArg _ ((hcarry (x ++ 0b1#1) _ _ (by decide)).trans BitVec.extractLsb'_append_eq_left)
  case funGreen x => exact congrArg _ ((hcarry (x ++ 0b10#2) _ _ (by decide)).trans BitVec.extractLsb'_append_eq_left)
  case funBlue x => exact congrArg _ ((hcarry (x ++ 0b100#3) _ _ (by decide)).trans BitVec.extractLsb'_append_eq_left)
  case funYellow x => exact congrArg _ ((hcarry (x ++ 0b1000#4) _ _ (by decide)).trans BitVec.extractLsb'_append_eq_left)
  case funMagenta x => exact congrArg _ ((hcarry (x ++ 0b10000#5) _ _ (by decide)).trans BitVec.extractLsb'_append_eq_left)
  case funCyan x => exact congrArg _ ((hcarry (x ++ 0b100000#6) _ _ (by decide)).trans BitVec.extractLsb'_append_eq_left)
  case funWhite => rfl
  case funBlack => rfl

theorem decodeFun_encode {i : Instr} (hi : i.site = .fun9) : decodeFun ((encode i).setWidth 9) = i := by
  have hmatch : matchesAddress i ((encode i).setWidth 9) := by
    have hfits : (encode i).toNat < 2 ^ 9 := by
      have := encode_fits i
      rwa [hi] at this
    rw [matchesAddress_iff_word hi, withIgnoredBits_encode hi, setWidth_setWidth_of_fits hfits]
  rw [decodeFun_of_matches hmatch, withIgnoredBits_encode hi]

/-- Only a Fun row is matched by an address. -/
theorem site_of_matchesAddress {i : Instr} {a : BitVec 9} (h : matchesAddress i a) : i.site = .fun9 := by
  unfold matchesAddress at h
  split at h
  case h_11 => exact h.elim
  all_goals rfl

theorem withIgnoredBits_of_decodeFun (a : BitVec 9) : withIgnoredBits (decodeFun a) a = decodeFun a :=
  (decodeFun_of_matches (decodeFun_matches a)).symm

theorem encode_of_decodeFun (a : BitVec 9) :
    (decodeFun a).site = .fun9 ∧ (decodeFun a).wf = true ∧ encode (decodeFun a) = a.setWidth 16 := by
  have hsite := site_of_matchesAddress (decodeFun_matches a)
  refine ⟨hsite, ?_, ?_⟩
  · generalize decodeFun a = i at hsite
    cases i <;> cases hsite <;> rfl
  · have hword := (matchesAddress_iff_word hsite).mp (decodeFun_matches a)
    rwa [withIgnoredBits_of_decodeFun] at hword

/-! ## Round trips -/

/-- Settles O1: at each site the decoder reads the word of its own table back. -/
theorem decodeOfEncodeIsTheOperation : Obligations.DecodeOfEncodeIsTheOperation := by
  unfold Obligations.DecodeOfEncodeIsTheOperation
  intro i hwf
  have hfits := encode_fits i
  cases hsite : i.site <;> rw [hsite] at hfits
  case phase => rw [decode_phase hfits, decodePhase_encode hsite]
  case rxc => rw [decode_rxc hfits, decodeRxc_encode hsite hwf]
  case mcs => rw [decode_mcs hfits, decodeMcs_encode hsite]
  case fun9 => rw [decode_fun9 hfits, decodeFun_encode hsite]
  case sww =>
    rw [decode_sww hfits]
    exact congrArg _ (decodeSww_encode hsite)
  case evt => rw [decode_evt, decodeStimulus_encode hsite]

/-- Settles O2: at each site an accepted word is that of the operation it decodes to. -/
theorem encodeOfDecodeIsTheWord : Obligations.EncodeOfDecodeIsTheWord := by
  unfold Obligations.EncodeOfDecodeIsTheWord
  intro site w i h
  have hfits := fits_of_decode h
  have hback := setWidth_setWidth_of_fits hfits
  cases site
  case phase =>
    obtain ⟨hsite, hwf, hword⟩ := encode_of_decodePhase ((decode_phase hfits).symm.trans h)
    exact ⟨hsite, hwf, hword.trans hback⟩
  case rxc =>
    cases (decode_rxc hfits).symm.trans h
    obtain ⟨hsite, hwf, hword⟩ := encode_of_decodeRxc (w.setWidth 9)
    exact ⟨hsite, hwf, hword.trans hback⟩
  case mcs =>
    obtain ⟨hsite, hwf, hword⟩ := encode_of_decodeMcs ((decode_mcs hfits).symm.trans h)
    exact ⟨hsite, hwf, hword.trans hback⟩
  case fun9 =>
    cases (decode_fun9 hfits).symm.trans h
    obtain ⟨hsite, hwf, hword⟩ := encode_of_decodeFun (w.setWidth 9)
    exact ⟨hsite, hwf, hword.trans hback⟩
  case sww =>
    cases (decode_sww hfits).symm.trans h
    exact ⟨rfl, rfl, (encode_decodeSww _).trans hback⟩
  case evt => exact encode_of_decodeStimulus ((decode_evt w).symm.trans h)

/-- Settles O3: each word lies in its table. -/
theorem writtenWordsDecodeToTheirRows : Obligations.WrittenWordsDecodeToTheirRows := by
  unfold Obligations.WrittenWordsDecodeToTheirRows
  decide

end Sys2Proof.Machine

/-! The rows that the handlers select (R130, R160, R200), what each stimulus may write (R41), and what a step runs (R121). -/

namespace Sys2Proof.Machine

open Sys2Proof

/-! ## The handlers run the row that their decoder selects -/

/-- The TMR handler runs the row that PHASE decodes to (R101). -/
theorem pwmHandler_of_decodePhase {s : State} {i : Instr} (h : decodePhase s.phase = .ok i) : pwmHandler s = exec i s := by
  unfold decodePhase at h
  unfold pwmHandler
  split_ifs at h ⊢ <;> cases h <;> rfl

/-- The RXC handler runs the row that the character decodes to (R93). -/
theorem rxHandler_eq_exec (f : Bool) (d : Byte) (s : State) : rxHandler f d s = exec (decodeRxc (charWord f d)) s := by
  rw [everyCharacterSelectsOneOperation, rxHandler, apply_ite (exec · s), apply_ite (exec · s)]
  rfl

/-- A micro-step runs the row that MC_STEP decodes to (R120). -/
theorem microStep_of_decodeMcs {s : State} {i : Instr} (h : decodeMcs s.mcStep = .ok i) : microStep s = exec i s := by
  unfold decodeMcs at h
  split at h <;> rename_i hpos <;> cases h <;> simp only [microStep, hpos] <;> rfl

/-- Every legal MC_STEP selects a row (R115). -/
theorem decodeMcs_of_legal {s : State} (h : s.mcStepLegal) : ∃ i, decodeMcs s.mcStep = .ok i := by
  have hselect : ∀ n : BitVec 5, n.toNat < 25 → (accepted (decodeMcs n)).isSome := by decide
  have hrow := hselect s.mcStep h
  cases hdec : decodeMcs s.mcStep with
  | ok i => exact ⟨i, rfl⟩
  | error r => rw [hdec] at hrow; cases hrow

/-- If a micro-step answers a next state, a row of the mode controller ran, at its own position. -/
theorem microStep_cases {s t : State} (h : microStep s = .next t) :
    ∃ i, decodeMcs s.mcStep = .ok i ∧ i.site = .mcs ∧ exec i s = .next t := by
  by_cases hlegal : s.mcStepLegal
  · obtain ⟨i, hi⟩ := decodeMcs_of_legal hlegal
    exact ⟨i, hi, (encode_of_decodeMcs hi).1, (microStep_of_decodeMcs hi).symm.trans h⟩
  · cases (microStep_reserved hlegal).symm.trans h

/-! ## The stimuli -/

theorem exec_rxc_enabled {s : State} (h : s.ieRx = true) (f : Bool) (d : Byte) :
    exec (.rxc f d) s = exec (decodeRxc (charWord f d)) s :=
  (receiveInterrupt_enabled h _).trans (rxHandler_eq_exec f d s)

theorem exec_rxc_disabled {s : State} (h : s.ieRx = false) (f : Bool) (d : Byte) : exec (.rxc f d) s = .next s :=
  receiveInterrupt_disabled h _

theorem exec_mstep (s : State) : exec .mstep s = microStep s := rfl

theorem exec_poll (s : State) : exec .poll s = runPass 25 s := rfl

/-- What an executed TMR did (R130): it was admitted, and the slice of PHASE moved on or wrapped. -/
theorem exec_tmr_cases {s t : State} (h : exec .tmr s = .next t) : s.ieTmr = true ∧
    ((∃ k < 7, s.phase = 1#8 <<< (k + 1) ∧ t = (s.renderSlice (k + 1)).toPhase (1#8 <<< k)) ∨
     (s.phase = 0x01 ∧ t = ((s.renderSlice 0).toPhase 0x80).countCycle)) := by
  cases hOn : s.ieTmr with
  | false => cases (timingInterrupt_disabled hOn pwmHandler).symm.trans h
  | true =>
    have hrun := (timingInterrupt_enabled hOn pwmHandler).symm.trans h
    refine ⟨rfl, ?_⟩
    by_cases hphase : s.phaseOneHot
    · rcases pwmHandler_of_oneHot hphase with ⟨k, hk, hp, hslice⟩ | ⟨hp, hslice⟩
      · cases hslice.symm.trans hrun
        exact .inl ⟨k, hk, hp, rfl⟩
      · cases hslice.symm.trans hrun
        exact .inr ⟨hp, rfl⟩
    · cases (pwmHandler_notOneHot hphase).symm.trans hrun

/-- What an executed character did (R160, R257): it was lost, or it ran its row. -/
theorem exec_rxc_cases {f : Bool} {d : Byte} {s t : State} (h : exec (.rxc f d) s = .next t) :
    (s.ieRx = false ∧ t = s) ∨ (s.ieRx = true ∧ exec (decodeRxc (charWord f d)) s = .next t) := by
  cases hOn : s.ieRx with
  | false =>
    cases (exec_rxc_disabled hOn f d).symm.trans h
    exact .inl ⟨rfl, rfl⟩
  | true => exact .inr ⟨rfl, (exec_rxc_enabled hOn f d).symm.trans h⟩

/-- What every micro-step keeps, a pass keeps. -/
theorem runPass_preserves {P : State → Prop} (hstep : ∀ s t, P s → microStep s = .next t → P t) {n : Nat} {s t : State}
    (hs : P s) (h : runPass n s = .next t) : P t := by
  induction n generalizing s with
  | zero => cases h; exact hs
  | succ n ih =>
    obtain ⟨u, hu, hrest⟩ := andThen_eq_next.mp h
    have hPu := hstep s u hs hu
    split at hrest
    · cases hrest; exact hPu
    · exact ih hPu hrest

/-! ## Who writes what (R41) -/

/-! A reading of the state that looks at none of an agent's registers is the same before and after the agent. -/

theorem pwmWritesOnly.congr {α : Sort*} {s t : State} (h : pwmWritesOnly s t) (f : State → α)
    (hf : ∀ u p k o v l, f { u with phase := p, tick := k, timeout := o, out := v, tmrLoad := l } = f u := by intros; rfl) :
    f t = f s :=
  (hf t _ _ _ _ _).symm.trans (congrArg f h)

theorem rxWritesOnly.congr {α : Sort*} {s t : State} (h : rxWritesOnly s t) (f : State → α)
    (hf : ∀ u g n l b c o,
      f { u with stg := g, slot := n, lastlen := l, good := b, disp := c, timeout := o } = f u := by intros; rfl) :
    f t = f s :=
  (hf t _ _ _ _ _ _).symm.trans (congrArg f h)

theorem mcWritesOnly.congr {α : Sort*} {s t : State} (h : mcWritesOnly s t) (f : State → α)
    (hf : ∀ u c o a m e r l n w x y k v,
      f { u with
        disp := c, timeout := o, address := a, mode := m, ieTmr := e, ieRx := r, led := l, mcStep := n, swlatch := w
        tosnap := x, funcol := y, wdtKicks := k, swSetting := v } = f u := by intros; rfl) :
    f t = f s :=
  (hf t _ _ _ _ _ _ _ _ _ _ _ _ _).symm.trans (congrArg f h)

theorem exec_tmr_writesOnly {s t : State} (h : exec .tmr s = .next t) : pwmWritesOnly s t := by
  rcases (exec_tmr_cases h).2 with ⟨k, -, -, rfl⟩ | ⟨-, rfl⟩ <;> rfl

theorem exec_rxc_writesOnly {f : Bool} {d : Byte} {s t : State} (h : exec (.rxc f d) s = .next t) : rxWritesOnly s t := by
  rcases exec_rxc_cases h with ⟨-, rfl⟩ | ⟨-, hrow⟩
  · exact rxWritesOnly_refl t
  · exact exec_rxcRow_writesOnly (encode_of_decodeRxc _).1 hrow

theorem microStep_writesOnly {s t : State} (h : microStep s = .next t) : mcWritesOnly s t := by
  obtain ⟨i, -, hsite, hrow⟩ := microStep_cases h
  exact exec_mcsRow_writesOnly hsite hrow

theorem exec_poll_writesOnly {s t : State} (h : exec .poll s = .next t) : mcWritesOnly s t :=
  runPass_preserves (P := mcWritesOnly s) (fun _ _ hu hstep => mcWritesOnly_trans hu (microStep_writesOnly hstep))
    (mcWritesOnly_refl s) h

theorem exec_slice_writesOnly {i : Instr} {s t : State} (hi : i.site = .phase) (h : exec i s = .next t) :
    pwmWritesOnly s t := by
  by_cases hlast : i = .pwmP0
  · subst hlast
    cases h
    rfl
  · obtain ⟨k, -, hrun⟩ := exec_slice_of_ne_last hi hlast s
    cases hrun.symm.trans h
    rfl

/-- Settles O60: each handler's rows write their agent's registers, and a pass writes what its micro-steps write. -/
theorem eachAgentWritesItsOwnRegisters : Obligations.EachAgentWritesItsOwnRegisters := by
  unfold Obligations.EachAgentWritesItsOwnRegisters
  refine ⟨fun _ _ => exec_tmr_writesOnly, fun _ _ _ _ => exec_rxc_writesOnly, fun s t h => ?_, fun i s t h =>
    ⟨fun hi => exec_slice_writesOnly hi h, fun hi => exec_rxcRow_writesOnly hi h, fun hi => exec_mcsRow_writesOnly hi h,
      fun hi => ?_, fun hi => ?_⟩⟩
  · exact h.elim microStep_writesOnly exec_poll_writesOnly
  · obtain ⟨c, hrun⟩ := exec_fun9Row hi s
    cases hrun.symm.trans h
    rfl
  · obtain ⟨w, hrun⟩ := exec_swwRow hi s
    cases hrun.symm.trans h
    rfl

/-- Settles O16: the counter is the PWM engine's, and of its slices the last alone counts. -/
theorem tickMovesOnlyAtTheWrap : Obligations.TickMovesOnlyAtTheWrap := by
  unfold Obligations.TickMovesOnlyAtTheWrap
  intro i s t hi h hmove
  cases i <;> cases hi
  case tmr =>
    obtain ⟨hOn, ⟨k, -, -, rfl⟩ | ⟨hlast, rfl⟩⟩ := exec_tmr_cases h
    · exact absurd rfl hmove
    · exact .inr ⟨rfl, hOn, hlast, rfl⟩
  case rxc => exact absurd (tick_of_rxWritesOnly (exec_rxc_writesOnly h)) hmove
  case poll => exact absurd (tick_of_mcWritesOnly (exec_poll_writesOnly h)) hmove
  case mstep => exact absurd (tick_of_mcWritesOnly (microStep_writesOnly h)) hmove
  case sw => cases h; exact absurd rfl hmove
  case wdtx => exact .inl rfl
  case por => exact .inl rfl

/-! ## Every operation, by the agent that runs it -/

/-- A row of the mode controller ran, whatever the position. -/
def rowRuns (s t : State) : Prop := ∃ i : Instr, i.site = .mcs ∧ exec i s = .next t

/-- A pass is a sequence of the mode controller's rows. -/
theorem runPass_rowRuns {n : Nat} {s t : State} (h : runPass n s = .next t) : Relation.ReflTransGen rowRuns s t :=
  runPass_preserves (P := Relation.ReflTransGen rowRuns s)
    (fun _ _ hu hstep => by
      obtain ⟨i, -, hsite, hrow⟩ := microStep_cases hstep
      exact hu.tail ⟨i, hsite, hrow⟩)
    .refl h

theorem mcWritesOnly_of_rowRuns {s t : State} (h : Relation.ReflTransGen rowRuns s t) : mcWritesOnly s t := by
  induction h with
  | refl => exact mcWritesOnly_refl s
  | tail _ hrow ih =>
    obtain ⟨i, hsite, hrow⟩ := hrow
    exact mcWritesOnly_trans ih (exec_mcsRow_writesOnly hsite hrow)

/-- What an operation that answers a next state did: an agent's writes, or those of a Fun row, the switch decode, SW or a reset. -/
theorem exec_cases {i : Instr} {s t : State} (h : exec i s = .next t) :
    pwmWritesOnly s t ∨ rxWritesOnly s t ∨ Relation.ReflTransGen rowRuns s t ∨ (∃ c, t = s.setFuncol c) ∨
    (∃ w, t = s.decodeSwitches w) ∨ (∃ w, i = .sw w ∧ t = s.setPins w) ∨ (isReset i = true ∧ t = s.hardReset) := by
  cases hi : i.site with
  | phase => exact .inl (exec_slice_writesOnly hi h)
  | rxc => exact .inr (.inl (exec_rxcRow_writesOnly hi h))
  | mcs => exact .inr (.inr (.inl (.single ⟨i, hi, h⟩)))
  | fun9 =>
    obtain ⟨c, hrun⟩ := exec_fun9Row hi s
    cases hrun.symm.trans h
    exact .inr (.inr (.inr (.inl ⟨c, rfl⟩)))
  | sww =>
    obtain ⟨w, hrun⟩ := exec_swwRow hi s
    cases hrun.symm.trans h
    exact .inr (.inr (.inr (.inr (.inl ⟨w, rfl⟩))))
  | evt =>
    cases i
    case tmr => exact .inl (exec_tmr_writesOnly h)
    case rxc => exact .inr (.inl (exec_rxc_writesOnly h))
    case poll => exact .inr (.inr (.inl (runPass_rowRuns h)))
    case mstep =>
      obtain ⟨j, -, hsite, hrow⟩ := microStep_cases h
      exact .inr (.inr (.inl (.single ⟨j, hsite, hrow⟩)))
    case sw w => cases h; exact .inr (.inr (.inr (.inr (.inr (.inl ⟨w, rfl, rfl⟩)))))
    case wdtx => cases h; exact .inr (.inr (.inr (.inr (.inr (.inr ⟨rfl, rfl⟩)))))
    case por => cases h; exact .inr (.inr (.inr (.inr (.inr (.inr ⟨rfl, rfl⟩)))))
    all_goals cases hi

/-- Settles O45: the pins are no agent's register, and a reset puts them back. -/
theorem pinsHoldUntilTheNextSwitchStimulus : Obligations.PinsHoldUntilTheNextSwitchStimulus := by
  unfold Obligations.PinsHoldUntilTheNextSwitchStimulus
  refine ⟨fun w s => rfl, fun i s t hsw h => ?_⟩
  rcases exec_cases h with hpwm | hrx | hmc | ⟨c, rfl⟩ | ⟨w, rfl⟩ | ⟨w, rfl, -⟩ | ⟨-, rfl⟩
  · exact hpwm.congr State.pins
  · exact hrx.congr State.pins
  · exact (mcWritesOnly_of_rowRuns hmc).congr State.pins
  · rfl
  · rfl
  · exact absurd rfl (hsw w)
  · rfl

/-- No row of the mode controller clears IE_TMR (R144). -/
theorem exec_mcsRow_ieTmr {i : Instr} {s t : State} (hi : i.site = .mcs) (hs : s.ieTmr = true) (h : exec i s = .next t) :
    t.ieTmr = true := by
  cases i <;> cases hi
  case mcFundec => cases (exec_mcFundec s).symm.trans h; exact hs
  case mcIetmr1 => cases h; rfl
  case mcFietmr1 => cases h; rfl
  all_goals
    cases h
    exact hs

theorem ieTmr_of_rowRuns {s t : State} (h : Relation.ReflTransGen rowRuns s t) (hs : s.ieTmr = true) : t.ieTmr = true := by
  induction h with
  | refl => exact hs
  | tail _ hrow ih =>
    obtain ⟨i, hsite, hrow⟩ := hrow
    exact exec_mcsRow_ieTmr hsite ih hrow

/-- Settles O55: the enable is the mode controller's alone, and its rows only set it. -/
theorem timerEnableStaysUntilReset : Obligations.TimerEnableStaysUntilReset := by
  unfold Obligations.TimerEnableStaysUntilReset
  intro i s t hreset hs h
  rcases exec_cases h with hpwm | hrx | hmc | ⟨c, rfl⟩ | ⟨w, rfl⟩ | ⟨w, -, rfl⟩ | ⟨hi, -⟩
  · exact (hpwm.congr State.ieTmr).trans hs
  · exact (hrx.congr State.ieTmr).trans hs
  · exact ieTmr_of_rowRuns hmc hs
  · exact hs
  · exact hs
  · exact hs
  · exact absurd hi (Bool.eq_false_iff.mp hreset)

/-! ## A step (R121) -/

/-- A step at a word that decodes to an operation is that operation, if the positions let it run. -/
theorem step_of_decodes {s : State} {w : StimWord} {rest : List StimWord} {i : Instr} (hstim : s.stim = w :: rest)
    (hi : decodeStimulus w = .ok i) : step s = admitPosition i { s with stim := rest } (exec i) := by
  unfold step
  rw [fetchStimulus_cons hstim]
  simp only [hi]

/-- If a step answers a next state, its word decoded to a stimulus, which was admitted and ran. -/
theorem step_cases {s t : State} (h : step s = .next t) :
    ∃ w rest i, s.stim = w :: rest ∧ decodeStimulus w = .ok i ∧ i.site = .evt ∧
      (s.positionsLegal ∨ i = .por) ∧ exec i { s with stim := rest } = .next t := by
  cases hstim : s.stim with
  | nil =>
    rw [step, fetchStimulus_nil hstim] at h
    cases h
  | cons w rest =>
    cases hdec : decodeStimulus w with
    | error r =>
      rw [step, fetchStimulus_cons hstim] at h
      simp only [hdec, reduceCtorEq] at h
    | ok i =>
      obtain ⟨hadmit, hrun⟩ := admitPosition_eq_next.mp ((step_of_decodes hstim hdec).symm.trans h)
      exact ⟨w, rest, i, rfl, hdec, (encode_of_decodeStimulus hdec).1, hadmit, hrun⟩

/-- Settles O7: consuming the word leaves the positions as they are, so they let the operation run or not. -/
theorem stepRunsTheDecodedStimulus : Obligations.StepRunsTheDecodedStimulus := by
  unfold Obligations.StepRunsTheDecodedStimulus
  intro s w rest i hstim hi
  exact step_of_decodes hstim hi

/-- Settles O8: the word is looked at first, and the list before it. -/
theorem stepStopsOnReservedWordsAndAtTheEnd : Obligations.StepStopsOnReservedWordsAndAtTheEnd := by
  unfold Obligations.StepStopsOnReservedWordsAndAtTheEnd
  refine ⟨fun s w rest hstim hreserved => ?_, fun s hstim => ?_⟩
  · rw [step, fetchStimulus_cons hstim]
    cases hdec : decodeStimulus w with
    | ok i => exact absurd hdec (hreserved i)
    | error r => simp only [hdec]
  · rw [step, fetchStimulus_nil hstim]

/-! ## Placing an operation (R90) -/

/-- A stimulus placed in a state at legal positions is what the next step runs. -/
theorem step_placeStimulus {u : State} {w : StimWord} {i : Instr} (hu : u.positionsLegal) (hi : decodeStimulus w = .ok i) :
    step (u.placeStimulus w) = exec i u :=
  (step_of_decodes rfl hi).trans (admitPosition_legal hu i (exec i))

/-- Each slice's word is a one-hot PHASE. -/
theorem phaseOneHot_encode {i : Instr} (hi : i.site = .phase) (s : State) :
    { s with phase := (encode i).setWidth 8, ieTmr := true }.phaseOneHot := by
  cases i <;> cases hi <;> simp [State.phaseOneHot, encode]

/-- Each micro-step's word is a legal MC_STEP. -/
theorem mcStepLegal_encode {i : Instr} (hi : i.site = .mcs) : ((encode i).setWidth 5).toNat < 25 := by
  cases i <;> cases hi <;> decide

/-- The stimulus of a character operation is the class bits beside its word (R122). -/
theorem rxcClass_or_charWord (f : Bool) (d : Byte) : 0x2000 ||| (charWord f d).setWidth 16 = encode (.rxc f d) := by
  have hwide : (charWord f d).setWidth 16 = 0#7 ++ charWord f d := (BitVec.setWidth_eq_append (by decide)).trans rfl
  have hclass : (0x2000 : StimWord) = 0b0010000#7 ++ 0#9 := rfl
  rw [hwide, hclass, BitVec.or_append, BitVec.or_zero, BitVec.zero_or, encode]

theorem exists_rxc_of_rxcRow {i : Instr} (hi : i.site = .rxc) (hwf : i.wf = true) :
    ∃ f d, 0x2000 ||| encode i = encode (.rxc f d) ∧ decodeRxc (charWord f d) = i := by
  have hfits : (encode i).toNat < 2 ^ 9 := by
    have := encode_fits i
    rwa [hi] at this
  have hword := charWord_pieces ((encode i).setWidth 9)
  refine ⟨_, _, ?_, (congrArg decodeRxc hword).trans (decodeRxc_encode hi hwf)⟩
  rw [← rxcClass_or_charWord, hword, setWidth_setWidth_of_fits hfits]

theorem step_placeInstr_phase {i : Instr} (hi : i.site = .phase) (s : State) :
    step (s.placeInstr i) = exec i { s.settlePositions with phase := (encode i).setWidth 8, ieTmr := true } := by
  have hplace : s.placeInstr i =
      { s.settlePositions with phase := (encode i).setWidth 8, ieTmr := true }.placeStimulus (encode .tmr) := by
    simp only [State.placeInstr, hi]
  rw [hplace, step_placeStimulus ⟨phaseOneHot_encode hi _, (settlePositions_legal s).2⟩ (decodeStimulus_encode rfl), exec_tmr,
    timingInterrupt_enabled rfl]
  exact pwmHandler_of_decodePhase (decodePhase_encode hi)

theorem step_placeInstr_rxc {i : Instr} (hi : i.site = .rxc) (hwf : i.wf = true) (s : State) :
    step (s.placeInstr i) = exec i { s.settlePositions with ieRx := true } := by
  obtain ⟨f, d, hword, hrow⟩ := exists_rxc_of_rxcRow hi hwf
  have hplace : s.placeInstr i = { s.settlePositions with ieRx := true }.placeStimulus (encode (.rxc f d)) := by
    simp only [State.placeInstr, hi, hword]
  have hlegal : { s.settlePositions with ieRx := true }.positionsLegal := settlePositions_legal s
  rw [hplace, step_placeStimulus hlegal (decodeStimulus_encode rfl), exec_rxc_enabled rfl, hrow]

theorem step_placeInstr_mcs {i : Instr} (hi : i.site = .mcs) (s : State) :
    step (s.placeInstr i) = exec i { s.settlePositions with mcStep := (encode i).setWidth 5 } := by
  have hplace : s.placeInstr i =
      { s.settlePositions with mcStep := (encode i).setWidth 5 }.placeStimulus (encode .mstep) := by
    simp only [State.placeInstr, hi]
  have hlegal : { s.settlePositions with mcStep := (encode i).setWidth 5 }.positionsLegal :=
    ⟨(settlePositions_legal s).1, mcStepLegal_encode hi⟩
  rw [hplace, step_placeStimulus hlegal (decodeStimulus_encode rfl), exec_mstep]
  exact microStep_of_decodeMcs (decodeMcs_encode hi)

/-- A Fun row is placed as the address that selects it, so MC.FUNDEC runs it. -/
theorem step_placeInstr_fun9 {i : Instr} (hi : i.site = .fun9) (s : State) :
    step (s.placeInstr i) =
      andThen (exec i { s.settlePositions with address := (encode i).setWidth 9, mcStep := 21 }) (.next <| ·.goto 22) := by
  have hplace : s.placeInstr i =
      { s.settlePositions with address := (encode i).setWidth 9, mcStep := 21 }.placeStimulus (encode .mstep) := by
    simp only [State.placeInstr, hi]
  have hlegal : { s.settlePositions with address := (encode i).setWidth 9, mcStep := 21 }.positionsLegal :=
    ⟨(settlePositions_legal s).1, (by decide : (21 : BitVec 5).toNat < 25)⟩
  rw [hplace, step_placeStimulus hlegal (decodeStimulus_encode rfl), exec_mstep, microStep_at_21 rfl, execMcFundec,
    funRow_eq_exec_decodeFun, decodeFun_encode hi]

/-- The switch decode is placed as the switch word that MC.WRMODE drives it with. -/
theorem step_placeInstr_sww {i : Instr} (hi : i.site = .sww) (s : State) :
    step (s.placeInstr i) =
      andThen (exec i { s.settlePositions with swlatch := (encode i).setWidth 10, mcStep := 2 })
        (.next <| ·.writeMode.goto 3) := by
  have hplace : s.placeInstr i =
      { s.settlePositions with swlatch := (encode i).setWidth 10, mcStep := 2 }.placeStimulus (encode .mstep) := by
    simp only [State.placeInstr, hi]
  have hlegal : { s.settlePositions with swlatch := (encode i).setWidth 10, mcStep := 2 }.positionsLegal :=
    ⟨(settlePositions_legal s).1, (by decide : (2 : BitVec 5).toNat < 25)⟩
  rw [hplace, step_placeStimulus hlegal (decodeStimulus_encode rfl), exec_mstep, microStep_at_2 rfl]
  cases i <;> cases hi
  case swDecode m h a =>
    have hword : (encode (.swDecode m h a)).setWidth 10 = switchWord m h a := setWidth_setWidth_of_narrow (by decide) _
    rw [hword]
    rfl

theorem step_placeInstr_evt {i : Instr} (hi : i.site = .evt) (htmr : i ≠ .tmr) (s : State) :
    step (s.placeInstr i) = exec i s.settlePositions := by
  have hplace : s.placeInstr i = s.settlePositions.placeStimulus (encode i) := by
    cases i <;> cases hi
    case tmr => exact absurd rfl htmr
    all_goals rfl
  rw [hplace, step_placeStimulus (settlePositions_legal s) (decodeStimulus_encode hi)]

/-- Settles O9: each site's operation is placed as its own word, which the agent that the stimulus starts decodes back. -/
theorem placedOperationRunsNext : Obligations.PlacedOperationRunsNext := by
  unfold Obligations.PlacedOperationRunsNext
  intro s i
  refine ⟨settlePositions_of_legal, settlePositions_legal s, settlePositions_frame s, fun hi => step_placeInstr_phase hi s,
    fun hi hwf => step_placeInstr_rxc hi hwf s, fun hi => step_placeInstr_mcs hi s, fun hi => ?_, fun hi => ?_,
    fun hi htmr => step_placeInstr_evt hi htmr s, fun hi => ?_⟩
  · obtain ⟨c, hrun⟩ := exec_fun9Row hi { s.settlePositions with address := (encode i).setWidth 9, mcStep := 21 }
    exact ⟨_, hrun, (step_placeInstr_fun9 hi s).trans (congrArg (andThen · _) hrun)⟩
  · obtain ⟨w, hrun⟩ := exec_swwRow hi { s.settlePositions with swlatch := (encode i).setWidth 10, mcStep := 2 }
    exact ⟨_, hrun, (step_placeInstr_sww hi s).trans (congrArg (andThen · _) hrun)⟩
  · subst hi
    exact step_placeStimulus (u := { s.settlePositions with ieTmr := true }) (settlePositions_legal s)
      (decodeStimulus_encode rfl)

end Sys2Proof.Machine

/-! The statements on a whole PWM cycle (R139, R140), on whole frames (R160, R171, R172) and on the line (R180, R181). -/

namespace Sys2Proof.Machine

open Sys2Proof

/-! ## The slices of a cycle -/

/-- A TMR at the slice of a bit above bit 0. -/
theorem exec_tmr_slice {k : Nat} {s : State} (hk : k < 7) (hOn : s.ieTmr = true) (hp : s.phase = 1#8 <<< (k + 1)) :
    exec .tmr s = .next ((s.renderSlice (k + 1)).toPhase (1#8 <<< k)) := by
  rw [exec_tmr, timingInterrupt_enabled hOn]
  interval_cases k
  exacts [pwmHandler_at_1 hp, pwmHandler_at_2 hp, pwmHandler_at_3 hp, pwmHandler_at_4 hp, pwmHandler_at_5 hp,
    pwmHandler_at_6 hp, pwmHandler_at_7 hp]

/-- A TMR at the slice of bit 0. -/
theorem exec_tmr_last {s : State} (hOn : s.ieTmr = true) (hp : s.phase = 0x01) :
    exec .tmr s = .next ((s.renderSlice 0).toPhase 0x80).countCycle := by
  rw [exec_tmr, timingInterrupt_enabled hOn]
  exact pwmHandler_at_0 hp

/-- From the slice of bit `k`, the rest of the cycle counts once and leaves the outputs of bit 0. -/
theorem execAll_slices {k : Nat} {s : State} (hk : k < 8) (hOn : s.ieTmr = true) (hp : s.phase = 1#8 <<< k) :
    execAll (List.replicate (k + 1) .tmr) s = .next ((s.renderSlice 0).toPhase 0x80).countCycle := by
  induction k generalizing s with
  | zero => exact execAll_cons_of_next (exec_tmr_last hOn hp)
  | succ k ih =>
    rw [List.replicate_succ, execAll_cons_of_next (exec_tmr_slice (by omega) hOn hp),
      ih (s := (s.renderSlice (k + 1)).toPhase (1#8 <<< k)) (by omega) hOn rfl]
    rfl

/-- Settles O15: the cycle is the eight slices from bit 7. -/
theorem cycleCountsOnce : Obligations.CycleCountsOnce := by
  unfold Obligations.CycleCountsOnce
  intro s hOn hp
  rw [execAll_slices (k := 7) (by decide) hOn hp, State.renderSlice_toPhase s 0 rfl, ← hp]
  rfl

/-- The segments that the slices of bits `k - 1` down to 0 render from a colour (R141). -/
def sliceSegments (c : Colour) : Nat → List Segment
  | 0 => []
  | k + 1 => ⟨outputLines c k, 1#8 <<< k⟩ :: sliceSegments c k

theorem segments_succ_of_next {n : Nat} {s t : State} (h : exec .tmr s = .next t) :
    segments (n + 1) s = ⟨t.out, t.tmrLoad⟩ :: segments n t := by
  simp only [segments, h]

/-- From the slice of bit `k`, the rest of the cycle renders the displayed colour. -/
theorem segments_slices {k : Nat} {s : State} (hk : k < 8) (hOn : s.ieTmr = true) (hp : s.phase = 1#8 <<< k) :
    segments (k + 1) s = sliceSegments s.disp (k + 1) := by
  induction k generalizing s with
  | zero => exact segments_succ_of_next (exec_tmr_last hOn hp)
  | succ k ih =>
    rw [segments_succ_of_next (exec_tmr_slice (by omega) hOn hp),
      ih (s := (s.renderSlice (k + 1)).toPhase (1#8 <<< k)) (by omega) hOn rfl]
    rfl

/-- A line that is ON in the slice of bit `k` exactly if its intensity has that bit adds the bit's weight. -/
theorem onUnits_succ {k : Nat} (hk : k < 8) (x : Byte) :
    (if x.getLsbD k then (1#8 <<< k).toNat else 0) + x.toNat % 2 ^ k = x.toNat % 2 ^ (k + 1) := by
  have hload : (1#8 <<< k).toNat = 2 ^ k := by
    rw [← BitVec.twoPow_eq, BitVec.toNat_twoPow_of_lt hk]
  have hbit : (x.getLsbD k).toNat = x.toNat / 2 ^ k % 2 := Nat.toNat_testBit _ _
  rw [Nat.mod_pow_succ, ← hbit, hload]
  cases x.getLsbD k <;> simp [Nat.add_comm]

theorem redUnits_sliceSegments {k : Nat} (hk : k ≤ 8) (c : Colour) :
    redUnits (sliceSegments c k) = c.r.toNat % 2 ^ k := by
  induction k with
  | zero => exact (Nat.mod_one _).symm
  | succ k ih => rw [← onUnits_succ (by omega), ← ih (by omega)]; rfl

theorem greenUnits_sliceSegments {k : Nat} (hk : k ≤ 8) (c : Colour) :
    greenUnits (sliceSegments c k) = c.g.toNat % 2 ^ k := by
  induction k with
  | zero => exact (Nat.mod_one _).symm
  | succ k ih => rw [← onUnits_succ (by omega), ← ih (by omega)]; rfl

theorem blueUnits_sliceSegments {k : Nat} (hk : k ≤ 8) (c : Colour) :
    blueUnits (sliceSegments c k) = c.b.toNat % 2 ^ k := by
  induction k with
  | zero => exact (Nat.mod_one _).symm
  | succ k ih => rw [← onUnits_succ (by omega), ← ih (by omega)]; rfl

/-- Settles O14: the loads are the weights of the bits, so a line's units add up to its intensity, which is below 2^8. -/
theorem dutyOverACycleIsExact : Obligations.DutyOverACycleIsExact := by
  unfold Obligations.DutyOverACycleIsExact
  intro s hOn hp
  rw [segments_slices (k := 7) (by decide) hOn hp, redUnits_sliceSegments (by decide), greenUnits_sliceSegments (by decide),
    blueUnits_sliceSegments (by decide)]
  exact ⟨rfl, rfl, Nat.mod_eq_of_lt s.disp.r.isLt, Nat.mod_eq_of_lt s.disp.g.isLt, Nat.mod_eq_of_lt s.disp.b.isLt⟩

/-! ## One character (R160) -/

/-- A row of the RXC decode always completes. -/
theorem exec_rxcRow_next {i : Instr} (hi : i.site = .rxc) (s : State) : ∃ t, exec i s = .next t := by
  cases i <;> cases hi <;> exact ⟨_, rfl⟩

/-- Settles O20: the handler is the decoder's row, and a masked character does not reach it. -/
theorem characterRunsOneOperationOrIsLost : Obligations.CharacterRunsOneOperationOrIsLost := by
  unfold Obligations.CharacterRunsOneOperationOrIsLost
  refine fun f d s => ⟨fun hOn => ?_, fun hOff => exec_rxc_disabled hOff f d⟩
  obtain ⟨t, ht⟩ := exec_rxcRow_next (encode_of_decodeRxc (charWord f d)).1 s
  exact ⟨t, (exec_rxc_enabled hOn f d).trans ht, everyCharacterSelectsOneOperation f d ▸ ht⟩

/-- An admitted break is RX.BREAK. -/
theorem exec_break {s : State} (hOn : s.ieRx = true) : exec (.rxc true 0) s = exec .rxBreak s :=
  exec_rxc_enabled hOn true 0

/-- An admitted mis-framed character is RX.FERR. -/
theorem exec_misframed {s : State} {d : Byte} (hOn : s.ieRx = true) (hd : d ≠ 0) :
    exec (.rxc true d) s = exec (.rxFerr d) s := by
  rw [exec_rxc_enabled hOn, (misframedCharacterInvalidatesAndCounts d s).1 hd]

/-- An admitted data byte is RX.DATA. -/
theorem exec_dataByte {s : State} (hOn : s.ieRx = true) (d : Byte) : exec (.rxc false d) s = exec (.rxData d) s := by
  rw [exec_rxc_enabled hOn, (dataByteIsTestedStoredAndCounted d s).1]

/-- What a character detects (R250, R257): a lost one nothing, an admitted one what its row does. -/
theorem detects_rxc (f : Bool) (d : Byte) (s : State) :
    detects (.rxc f d) s = if s.ieRx = true then rowDetects (decodeRxc (charWord f d)) s else none := rfl

theorem detects_break {s : State} (hOn : s.ieRx = true) :
    detects (.rxc true 0) s = if s.slot = s.lastlen then none else some .x3 := by
  obtain ⟨hrow, hdet, -⟩ := breakJudgesCommitsAndRearms
  rw [detects_rxc, if_pos hOn, hrow]
  exact hdet s

theorem detects_misframed {s : State} {d : Byte} (hOn : s.ieRx = true) (hd : d ≠ 0) : detects (.rxc true d) s = some .x1 := by
  obtain ⟨hrow, hdet, -⟩ := misframedCharacterInvalidatesAndCounts d s
  rw [detects_rxc, if_pos hOn, hrow hd]
  exact hdet

theorem detects_dataByte {s : State} (hOn : s.ieRx = true) (d : Byte) :
    detects (.rxc false d) s = if s.slot = 0 ∧ d ≠ 0 then some .x2 else none := by
  obtain ⟨hrow, hdet, -⟩ := dataByteIsTestedStoredAndCounted d s
  rw [detects_rxc, if_pos hOn, hrow]
  exact hdet

/-- RX.BREAK at a count that differs records it and commits nothing (R162, R163). -/
theorem exec_rxBreak_of_ne {s t : State} (hne : s.slot ≠ s.lastlen) (h : exec .rxBreak s = .next t) :
    t.lastlen = s.slot ∧ t.disp = s.disp ∧ t.timeout = s.timeout := by
  rw [exec_rxBreak, State.judgeLength_of_ne hne, State.commitIfGood_of_not_good (State.clearGood_good _)] at h
  cases h
  exact ⟨rfl, rfl, rfl⟩

/-- RX.DATA at a non-zero start code clears GOOD (R167). -/
theorem exec_rxData_of_badStartCode {s t : State} {d : Byte} (hbad : s.slot = 0 ∧ d ≠ 0)
    (h : exec (.rxData d) s = .next t) : t.good = false := by
  cases (dataByteIsTestedStoredAndCounted d s).2.2.symm.trans h
  exact if_pos hbad

/-- Settles O24: the three rows by the flag and the data, and the lost character. -/
theorem characterConditionsAndTheirEffects : Obligations.CharacterConditionsAndTheirEffects := by
  unfold Obligations.CharacterConditionsAndTheirEffects
  intro f d s t h
  cases hOn : s.ieRx with
  | false => simp [detects_rxc, hOn]
  | true =>
    cases f with
    | false =>
      have heffect := fun hbad => exec_rxData_of_badStartCode hbad ((exec_dataByte hOn d).symm.trans h)
      rw [detects_dataByte hOn]
      split_ifs with hbad
      · simp_all
      · simpa using fun hd hslot => hbad ⟨hslot, hd⟩
    | true =>
      by_cases hd : d = 0
      · subst hd
        have heffect := fun hne => exec_rxBreak_of_ne hne ((exec_break hOn).symm.trans h)
        rw [detects_break hOn]
        split_ifs with hlen
        · simp [hlen]
        · simp [hlen, heffect hlen]
      · cases ((exec_misframed hOn hd).trans (exec_rxFerr d s)).symm.trans h
        rw [detects_misframed hOn hd]
        simp_all

/-- The registers of the receiver that no other agent reads into the display: staging, position, length and flag. -/
def State.frameRegisters (s : State) : Colour × Counter × Counter × Bool := (s.stg, s.slot, s.lastlen, s.good)

/-- A stimulus that is neither a reset nor an admitted character leaves the receiver's own registers. -/
theorem frameRegisters_of_exec {i : Instr} {s t : State} (hi : i.site = .evt) (hreset : isReset i = false)
    (h : exec i s = .next t) (hmask : ∀ f d, i = .rxc f d → s.ieRx = false) : t.frameRegisters = s.frameRegisters := by
  cases i <;> cases hi
  case tmr => exact (exec_tmr_writesOnly h).congr State.frameRegisters
  case rxc f d =>
    cases (exec_rxc_disabled (hmask f d rfl) f d).symm.trans h
    rfl
  case poll => exact (exec_poll_writesOnly h).congr State.frameRegisters
  case mstep => exact (microStep_writesOnly h).congr State.frameRegisters
  case sw => cases h; rfl
  case wdtx => cases hreset
  case por => cases hreset

/-- Settles O23: the registers are no other agent's, and the two rows that are no break do not set GOOD. -/
theorem receiverRegistersAreTheReceivers : Obligations.ReceiverRegistersAreTheReceivers := by
  unfold Obligations.ReceiverRegistersAreTheReceivers
  refine ⟨fun i s t hi hreset h hmask => ?_, fun f d s t h hbad hgood => ?_⟩
  · simpa [State.frameRegisters] using frameRegisters_of_exec hi hreset h hmask
  · rcases exec_rxc_cases h with ⟨-, rfl⟩ | ⟨hOn, hrow⟩
    · exact absurd (hbad.symm.trans hgood) Bool.false_ne_true
    · by_contra hnb
      have hclear : t.good = false := by
        rw [everyCharacterSelectsOneOperation, if_neg hnb] at hrow
        cases f with
        | true => cases hrow; rfl
        | false =>
          cases (dataByteIsTestedStoredAndCounted d s).2.2.symm.trans hrow
          simp [hbad]
      exact absurd (hclear.symm.trans hgood) Bool.false_ne_true

/-! ## Whole frames (R171, R172) -/

/-- One more character is valid if it is not mis-framed and, where it is the first, is a byte 0. -/
theorem validFrame_concat (cs : List (Bool × Byte)) (f : Bool) (d : Byte) :
    validFrame (cs ++ [(f, d)]) = (validFrame cs && !f && (cs.length != 0 || d == 0)) := by
  cases cs with
  | nil => simp [validFrame, Bool.and_comm]
  | cons c rest => simp [validFrame, Bool.and_assoc]

theorem noBreak_concat (cs : List (Bool × Byte)) (f : Bool) (d : Byte) :
    noBreak (cs ++ [(f, d)]) = true ↔ noBreak cs = true ∧ ¬ (f = true ∧ d = 0) := by
  simp only [noBreak, List.all_append, List.all_cons, List.all_nil, Bool.and_true, Bool.and_eq_true, Bool.not_eq_true',
    Bool.and_eq_false_iff, beq_eq_false_iff_ne, not_and_or, Bool.not_eq_true, ne_eq]

theorem slotByte_concat (cs : List (Bool × Byte)) (f : Bool) (d : Byte) (n : Nat) :
    slotByte (cs ++ [(f, d)]) n = if cs.length = n then d else slotByte cs n := by
  unfold slotByte
  rcases lt_trichotomy cs.length n with h | h | h
  · rw [if_neg h.ne, List.getElem?_eq_none (by simp; omega), List.getElem?_eq_none h.le]
  · rw [if_pos h, ← h, List.getElem?_concat_length]
    rfl
  · rw [if_neg h.ne', List.getElem?_append_left h]

/-- The characters of a frame one after the other (R126). -/
theorem characters_concat (cs : List (Bool × Byte)) (f : Bool) (d : Byte) :
    characters (cs ++ [(f, d)]) = characters cs ++ [.rxc f d] := List.map_append

/-- What a break leaves while reception is enabled (R164): the state in which a frame's characters are received. -/
structure State.Armed (s : State) : Prop where
  ieRx : s.ieRx = true
  slot : s.slot = 0
  good : s.good = true
  stg : s.stg = Colour.black

/-- Where reception stands after the characters `cs` of a frame, from a state `s` that a break left: they are counted, GOOD says
whether they are valid, and then the staging colour is theirs. -/
structure State.Receives (s : State) (cs : List (Bool × Byte)) (t : State) : Prop where
  slot : t.slot = BitVec.ofNat 16 cs.length
  good : t.good = validFrame cs
  stg : validFrame cs = true → t.stg = windowColour s.address cs
  frame : { t with slot := s.slot, good := s.good, stg := s.stg } = s

theorem counter_toNat_ofNat {n : Nat} (h : n < 2 ^ 16) : (BitVec.ofNat 16 n).toNat = n :=
  (BitVec.toNat_ofNat n 16).trans (Nat.mod_eq_of_lt h)

theorem counter_ofNat_mod (n : Nat) : BitVec.ofNat 16 (n % 2 ^ 16) = BitVec.ofNat 16 n :=
  BitVec.eq_of_toNat_eq (by simp)

/-- The channel decoder at the position after `cs` characters puts the next one where the window has it (R168). -/
theorem windowColour_concat (a : BitVec 9) (cs : List (Bool × Byte)) (f : Bool) (d : Byte) :
    windowColour a (cs ++ [(f, d)]) =
      (if cs.length = a.toNat then ⟨d, (windowColour a cs).g, (windowColour a cs).b⟩
       else if cs.length = a.toNat + 1 then ⟨(windowColour a cs).r, d, (windowColour a cs).b⟩
       else if cs.length = a.toNat + 2 then ⟨(windowColour a cs).r, (windowColour a cs).g, d⟩
       else windowColour a cs) := by
  simp only [windowColour, slotByte_concat, windowPos, Nat.add_zero]
  split_ifs <;> first | rfl | omega

/-- One character more of a frame, which is no break. -/
theorem State.Receives.concat {s t : State} {cs : List (Bool × Byte)} {f : Bool} {d : Byte} (h : s.Receives cs t)
    (hOn : s.ieRx = true) (hlen : cs.length < 2 ^ 16) (hnb : ¬ (f = true ∧ d = 0)) :
    ∃ u, exec (.rxc f d) t = .next u ∧ s.Receives (cs ++ [(f, d)]) u := by
  have hOnt : t.ieRx = true := (congrArg State.ieRx h.frame).trans hOn
  have haddr : t.address = s.address := (congrArg State.address h.frame :)
  have hpos : t.slot.toNat = cs.length := h.slot ▸ counter_toNat_ofNat hlen
  have hcount : BitVec.ofNat 16 ((t.slot.toNat + 1) % 2 ^ 16) = BitVec.ofNat 16 (cs ++ [(f, d)]).length := by
    rw [hpos, counter_ofNat_mod, List.length_append, List.length_singleton]
  cases f with
  | true =>
    have hinvalid : validFrame (cs ++ [(true, d)]) = false := by simp [validFrame_concat]
    refine ⟨_, (exec_misframed hOnt fun hd => hnb ⟨rfl, hd⟩).trans (misframedCharacterInvalidatesAndCounts d t).2.2,
      hcount, hinvalid.symm, fun hvalid => ?_, h.frame⟩
    exact absurd (hinvalid.symm.trans hvalid) Bool.false_ne_true
  | false =>
    refine ⟨_, (exec_dataByte hOnt d).trans (dataByteIsTestedStoredAndCounted d t).2.2, hcount, ?_, fun hvalid => ?_, h.frame⟩
    · have hfirst : t.slot = 0 ↔ cs.length = 0 := by rw [← BitVec.toNat_inj, hpos]; rfl
      have hbad : (cs.length != 0 || d == 0) = false ↔ t.slot = 0 ∧ d ≠ 0 := by
        rw [Bool.or_eq_false_iff, bne_eq_false_iff_eq, beq_eq_false_iff_ne, hfirst]
      rw [validFrame_concat, ← h.good]
      show (if t.slot = 0 ∧ d ≠ 0 then false else t.good) = _
      split_ifs with hx2
      · rw [hbad.mpr hx2, Bool.and_false]
      · rw [Bool.eq_true_of_not_eq_false (hbad.not.mpr hx2), Bool.and_true, Bool.not_false, Bool.and_true]
    · have hvalid' : validFrame cs = true := by
        rw [validFrame_concat] at hvalid
        simp_all
      rw [windowColour_concat, hpos, haddr, h.stg hvalid']

/-- A whole frame without breaks. -/
theorem State.Armed.receives {s : State} (hs : s.Armed) {cs : List (Bool × Byte)} (hlen : cs.length < 2 ^ 16)
    (hnb : noBreak cs = true) : ∃ t, execAll (characters cs) s = .next t ∧ s.Receives cs t := by
  induction cs using List.reverseRecOn with
  | nil => exact ⟨s, rfl, hs.slot, hs.good, fun _ => hs.stg, rfl⟩
  | append_singleton cs c ih =>
    obtain ⟨f, d⟩ := c
    obtain ⟨hnb, hc⟩ := (noBreak_concat cs f d).mp hnb
    have hlen' : cs.length < 2 ^ 16 := by
      rw [List.length_append, List.length_singleton] at hlen
      omega
    obtain ⟨t, hrun, ht⟩ := ih hlen' hnb
    obtain ⟨u, hlast, hu⟩ := ht.concat hs.ieRx hlen' hc
    refine ⟨u, ?_, hu⟩
    rw [characters_concat, execAll_append, hrun, andThen_next, execAll_cons_of_next hlast, execAll_nil]

/-- The closing break of a frame commits exactly a valid frame of LASTLEN characters, and records the length (R171). -/
theorem State.Receives.close {s t : State} {cs : List (Bool × Byte)} (h : s.Receives cs t) (hs : s.Armed)
    (hlen : cs.length < 2 ^ 16) :
    exec (.rxc true 0) t = .next { s with
      disp := if validFrame cs = true ∧ cs.length = s.lastlen.toNat then windowColour s.address cs else s.disp
      timeout := if validFrame cs = true ∧ cs.length = s.lastlen.toNat then 0 else s.timeout
      lastlen := BitVec.ofNat 16 cs.length } := by
  have hframe := h.frame
  rw [hs.slot, hs.good, hs.stg] at hframe
  subst hframe
  have heq : t.slot = t.lastlen ↔ cs.length = t.lastlen.toNat := by
    rw [h.slot, ← BitVec.toNat_inj, counter_toNat_ofNat hlen]
  have hcommit : t.slot = t.lastlen ∧ t.good = true ↔ validFrame cs = true ∧ cs.length = t.lastlen.toNat := by
    rw [heq, h.good, and_comm]
  have hlast : (if t.slot = t.lastlen then t.lastlen else t.slot) = BitVec.ofNat 16 cs.length := by
    rw [← h.slot]
    exact ite_eq_right_iff.mpr Eq.symm
  have hdisp : (if t.slot = t.lastlen ∧ t.good = true then t.stg else t.disp) =
      if validFrame cs = true ∧ cs.length = t.lastlen.toNat then windowColour t.address cs else t.disp :=
    ite_congr (propext hcommit) (fun hc => h.stg hc.1) (fun _ => rfl)
  have hOn : t.ieRx = true := hs.ieRx
  rw [exec_break hOn, breakJudgesCommitsAndRearms.2.2 t, hlast, hdisp, if_congr hcommit rfl rfl]
  rfl

/-- Settles O21: the characters by induction on the frame, then the closing break. -/
theorem frameCommitsExactlyIfValidAndStable : Obligations.FrameCommitsExactlyIfValidAndStable := by
  unfold Obligations.FrameCommitsExactlyIfValidAndStable
  intro s cs hOn hslot hgood hstg hlen hnb
  have hs : s.Armed := ⟨hOn, hslot, hgood, hstg⟩
  obtain ⟨t, hrun, ht⟩ := hs.receives hlen hnb
  rw [execAll_append, hrun, andThen_next, execAll_cons_of_next (ht.close hs hlen), execAll_nil]

/-- A break arms the receiver, whatever it finds. -/
theorem exec_break_arms {s : State} (hOn : s.ieRx = true) :
    ∃ t, exec (.rxc true 0) s = .next t ∧ t.Armed ∧ t.address = s.address :=
  ⟨_, (exec_break hOn).trans (breakJudgesCommitsAndRearms.2.2 s), ⟨hOn, rfl, rfl, rfl⟩, rfl⟩

/-- A frame and its closing break leave the receiver armed, with the frame's length recorded. -/
theorem State.Armed.receives_and_closes {s : State} (hs : s.Armed) {cs : List (Bool × Byte)} (hlen : cs.length < 2 ^ 16)
    (hnb : noBreak cs = true) : ∃ t, execAll (characters cs ++ [.rxc true 0]) s = .next t ∧ t.Armed ∧
      t.address = s.address ∧ t.lastlen.toNat = cs.length :=
  ⟨_, frameCommitsExactlyIfValidAndStable s cs hs.ieRx hs.slot hs.good hs.stg hlen hnb, ⟨hs.ieRx, hs.slot, hs.good, hs.stg⟩,
    rfl, counter_toNat_ofNat hlen⟩

/-- Settles O22: the first break arms the receiver, the first frame's closing break records its length, and the second frame's
compares with it. -/
theorem twoEqualFramesAreNeededForTrust : Obligations.TwoEqualFramesAreNeededForTrust := by
  unfold Obligations.TwoEqualFramesAreNeededForTrust
  intro s cs ds hOn hnbc hnbd hlenc hlend
  obtain ⟨r, hr, harmed, haddr⟩ := exec_break_arms hOn
  obtain ⟨q, hq, harmed', haddr', hlast⟩ := harmed.receives_and_closes hlenc hnbc
  obtain ⟨t, ht, hreceived⟩ := harmed'.receives hlend hnbd
  have hrun : execAll (.rxc true 0 :: characters cs ++ .rxc true 0 :: characters ds) s = .next t := by
    rw [List.cons_append, execAll_cons_of_next hr, List.append_cons, execAll_append, hq, andThen_next, ht]
  refine ⟨t, _, hrun, hreceived.close harmed' hlend, fun hlen hvalid => ?_, fun hne => ?_⟩
  · have hc : validFrame ds = true ∧ ds.length = q.lastlen.toNat := ⟨hvalid, by rw [hlast, hlen]⟩
    exact ⟨(if_pos hc).trans (by rw [haddr', haddr]), if_pos hc⟩
  · have hc : ¬ (validFrame ds = true ∧ ds.length = q.lastlen.toNat) := fun hc => hne (hlast.symm.trans hc.2.symm)
    exact ⟨(if_neg hc).trans (congrArg State.disp hreceived.frame :).symm,
      (if_neg hc).trans (congrArg State.timeout hreceived.frame :).symm⟩

/-- An admitted break at an unchanged count while GOOD = 1 commits (R162, R163). -/
theorem exec_break_commits {s : State} (hOn : s.ieRx = true) (hgood : s.good = true) (hlen : s.slot = s.lastlen) :
    exec (.rxc true 0) s = .next s.commit.rearm := by
  rw [exec_break hOn, exec_rxBreak, State.judgeLength_of_eq hlen, State.commitIfGood_of_good hgood]

/-- Settles O48: a break that commits clears TIMEOUT and copies the staging colour; the last slice counts and renders. -/
theorem handlerOrderIsObservable : Obligations.HandlerOrderIsObservable := by
  unfold Obligations.HandlerOrderIsObservable
  intro s hTmr hRx hphase hgood hlen
  exact ⟨_, _, execAll_pair (exec_tmr_last hTmr hphase) (exec_break_commits hRx hgood hlen),
    execAll_pair (exec_break_commits hRx hgood hlen) (exec_tmr_last hTmr hphase), rfl, rfl, rfl, rfl, rfl, rfl⟩

/-! ## The line (R180, R181) -/

/-- The last `n` samples shifted in are the byte's bits `n - 1` down to 0, the latest on top (R180). -/
def shiftedIn (d : Byte) (n : Nat) (acc : Byte) : Prop := ∀ k < n, acc.getLsbD (8 - n + k) = d.getLsbD k

theorem shiftedIn_succ {d acc : Byte} {n : Nat} (hn : n < 8) (h : shiftedIn d n acc) :
    shiftedIn d (n + 1) (BitVec.ofBool (d.getLsbD n) ++ acc.extractLsb' 1 7) := by
  intro k hk
  rw [BitVec.getLsbD_append]
  by_cases hlast : k = n
  · subst hlast
    rw [if_neg (by omega), show 8 - (k + 1) + k - 7 = 0 by omega]
    cases d.getLsbD k <;> rfl
  · have hidx : 1 + (8 - (n + 1) + k) = 8 - n + k := by omega
    rw [if_pos (by omega), BitVec.getLsbD_extractLsb', decide_eq_true (by omega), Bool.true_and, hidx]
    exact h k (by omega)

/-- With all eight samples shifted in, the byte is whole. -/
theorem eq_of_shiftedIn {d acc : Byte} (h : shiftedIn d 8 acc) : acc = d :=
  BitVec.eq_of_getLsbD_eq fun k hk => (congrArg acc.getLsbD (Nat.zero_add k)).symm.trans (h k hk)

/-- The data samples from bit `n` on, and then the first stop bit. -/
theorem lineCharacters_data (check : StopCheck) {d acc : Byte} {n m : Nat} (hm : n + (m + 1) = 8) (h : shiftedIn d n acc)
    (rest : List Bool) :
    lineCharacters check (.data n acc) ((List.range' n (m + 1)).map d.getLsbD ++ rest) =
      lineCharacters check (.stop1 d) rest := by
  induction m generalizing n acc with
  | zero =>
    obtain rfl : n = 7 := by omega
    have hd := eq_of_shiftedIn (shiftedIn_succ (by decide) h)
    show lineCharacters check (.stop1 (BitVec.ofBool (d.getLsbD 7) ++ acc.extractLsb' 1 7)) rest = _
    rw [hd]
  | succ m ih =>
    have hne : n ≠ 7 := by omega
    rw [← ih (by omega) (shiftedIn_succ (by omega) h), List.range'_succ, List.map_cons, List.cons_append, lineCharacters,
      lineSample, if_neg hne]

/-- Settles O25: the start bit, the eight data bits, and the two stop bits. -/
theorem lineDeliversTheCharacter : Obligations.LineDeliversTheCharacter := by
  unfold Obligations.LineDeliversTheCharacter
  intro check d a b rest
  have hdata := lineCharacters_data check (d := d) (acc := 0) (n := 0) (m := 7) rfl (fun k hk => absurd hk k.not_lt_zero)
    (a :: b :: rest)
  exact hdata

/-- While the line stays low after a character with a low second stop bit, nothing is delivered. -/
theorem lineCharacters_waitHigh (check : StopCheck) (n : Nat) (rest : List Bool) :
    lineCharacters check .waitHigh (List.replicate n false ++ true :: rest) = lineCharacters check .hunt rest := by
  induction n with
  | zero => rfl
  | succ n ih => exact ih

/-- Settles O26: ten low samples are a character's start, data and first stop bit; whether the second stop bit is low too decides
whether the receiver has to wait. -/
theorem longBreakIsOneCharacter : Obligations.LongBreakIsOneCharacter := by
  unfold Obligations.LongBreakIsOneCharacter
  intro check n rest hn
  obtain ⟨m, rfl⟩ := Nat.exists_eq_add_of_le hn
  cases m with
  | zero => exact lineDeliversTheCharacter check 0 false true rest
  | succ m =>
    have hline := lineDeliversTheCharacter check 0 false false (List.replicate m false ++ true :: rest)
    have hsamples : List.replicate (10 + (m + 1)) false = characterSamples 0 false false ++ List.replicate m false := by
      rw [show 10 + (m + 1) = 11 + m by omega, List.replicate_add]
      rfl
    rw [hsamples, List.append_assoc, ← lineCharacters_waitHigh check m rest]
    exact hline

end Sys2Proof.Machine

/-! The statements on the mode controller's positions (R115, R200, R238), on reset (R290) and on what every step keeps. -/

namespace Sys2Proof.Machine

open Sys2Proof

/-! ## The successor of a micro-step (R120) -/

/-- The position that selects a row. -/
theorem mcStep_of_decodeMcs {n : BitVec 5} {i : Instr} (h : decodeMcs n = .ok i) : n = (encode i).setWidth 5 := by
  rw [(encode_of_decodeMcs h).2.2, setWidth_setWidth_of_narrow (by decide)]

/-- Where a micro-step at position `n` may go: to the next position (from MC.TEST only at signal loss), over the DMX branch,
over the loss branch, or to the end of the pass. -/
def successor (tosnap : Counter) (n m : BitVec 5) : Prop :=
  (m.toNat = n.toNat + 1 ∧ n.toNat < 24 ∧ (n = 10 → signalLost tosnap = true)) ∨ (n = 5 ∧ m = 18) ∨
  (n = 10 ∧ m = 17 ∧ signalLost tosnap = false) ∨ (m = 0 ∧ 16 ≤ n.toNat)

/-- Every row of the mode controller completes and moves on from its own position. -/
theorem exec_mcsRow_successor {i : Instr} (hi : i.site = .mcs) (s : State) :
    ∃ t, exec i s = .next t ∧ successor s.tosnap ((encode i).setWidth 5) t.mcStep := by
  have hnext {n m : BitVec 5} (hm : m.toNat = n.toNat + 1 := by rfl) (hn : n.toNat < 24 ∧ n ≠ 10 := by decide) :
      successor s.tosnap n m := .inl ⟨hm, hn.1, fun h => absurd h hn.2⟩
  have hend {n : BitVec 5} (hn : 16 ≤ n.toNat := by decide) : successor s.tosnap n 0 := .inr (.inr (.inr ⟨rfl, hn⟩))
  cases i <;> cases hi
  case mcDispatch =>
    refine ⟨_, exec_mcDispatch s, ?_⟩
    by_cases hmode : s.mode = .dmx
    · rw [if_pos hmode]
      exact hnext
    · rw [if_neg hmode]
      exact .inr (.inl ⟨rfl, rfl⟩)
  case mcTest =>
    refine ⟨_, rfl, ?_⟩
    cases hlost : signalLost s.tosnap
    · exact .inr (.inr (.inl ⟨rfl, rfl, hlost⟩))
    · exact .inl ⟨rfl, by decide, fun _ => hlost⟩
  case mcFundec => exact ⟨_, exec_mcFundec s, hnext⟩
  case mcLedslow => exact ⟨_, rfl, hend⟩
  case mcLedfast => exact ⟨_, rfl, hend⟩
  case mcFunb => exact ⟨_, rfl, hend⟩
  all_goals exact ⟨_, rfl, hnext⟩

/-- Every legal position has a micro-step, and it moves on. -/
theorem microStep_successor {s : State} (h : s.mcStepLegal) :
    ∃ t, microStep s = .next t ∧ successor s.tosnap s.mcStep t.mcStep := by
  obtain ⟨i, hdec⟩ := decodeMcs_of_legal h
  rw [microStep_of_decodeMcs hdec, mcStep_of_decodeMcs hdec]
  exact exec_mcsRow_successor (encode_of_decodeMcs hdec).1 s

/-- A micro-step that does not end the pass moves forward. -/
theorem successor.lt {x : Counter} {n m : BitVec 5} (h : successor x n m) (hm : m ≠ 0) : n.toNat < m.toNat := by
  rcases h with ⟨h, -, -⟩ | ⟨rfl, rfl⟩ | ⟨rfl, rfl, -⟩ | ⟨h, -⟩
  · omega
  · decide
  · decide
  · exact absurd h hm

theorem successor.legal {x : Counter} {n m : BitVec 5} (h : successor x n m) : m.toNat < 25 := by
  rcases h with ⟨hm, hn, -⟩ | ⟨-, rfl⟩ | ⟨-, rfl, -⟩ | ⟨rfl, -⟩
  · omega
  all_goals decide

/-- What a micro-step that answers a next state ran, where it stood and where it went. -/
theorem microStep_next_cases {s t : State} (h : microStep s = .next t) :
    s.mcStepLegal ∧ t.mcStepLegal ∧ successor s.tosnap s.mcStep t.mcStep := by
  by_cases hlegal : s.mcStepLegal
  · obtain ⟨u, hu, hsucc⟩ := microStep_successor hlegal
    cases hu.symm.trans h
    exact ⟨hlegal, hsucc.legal, hsucc⟩
  · cases (microStep_reserved hlegal).symm.trans h

/-- Settles O41: the position selects a row, the row completes, and its successor is a position. -/
theorem microStepRunsTheSelectedRow : Obligations.MicroStepRunsTheSelectedRow := by
  unfold Obligations.MicroStepRunsTheSelectedRow
  refine fun s => ⟨fun hlegal => ?_, microStep_reserved⟩
  obtain ⟨t, ht, hsucc⟩ := microStep_successor hlegal
  obtain ⟨i, hdec, -, hrow⟩ := microStep_cases ht
  exact ⟨i, t, hdec, hrow, ht, hsucc.legal⟩

/-! ## The rest of a pass (R238) -/

/-- A fact about a legal position holds if it follows from the same fact after its micro-step, where that does not end the pass. -/
theorem pass_induction {P : State → Prop}
    (hstep : ∀ s t, s.mcStepLegal → microStep s = .next t → (t.mcStep ≠ 0 → P t) → P s) {s : State} (hs : s.mcStepLegal) :
    P s := by
  induction hn : 25 - s.mcStep.toNat using Nat.strong_induction_on generalizing s with
  | _ n ih =>
    obtain ⟨t, ht, hsucc⟩ := microStep_successor hs
    refine hstep s t hs ht fun hne => ih _ ?_ hsucc.legal rfl
    have hlt := hsucc.lt hne
    have hleft : s.mcStep.toNat < 25 := hs
    omega

/-- The bound on the micro-steps of a pass never ends it: two bounds that both reach position 25 agree. -/
theorem runPass_of_fuel {s : State} (hs : s.mcStepLegal) {n m : Nat} (hn : 25 ≤ n + s.mcStep.toNat)
    (hm : 25 ≤ m + s.mcStep.toNat) : runPass n s = runPass m s := by
  induction n generalizing s m with
  | zero => exact absurd hs (by unfold State.mcStepLegal; omega)
  | succ n ih =>
    cases m with
    | zero => exact absurd hs (by unfold State.mcStepLegal; omega)
    | succ m =>
      obtain ⟨t, ht, hsucc⟩ := microStep_successor hs
      rw [runPass_succ, runPass_succ, ht, andThen_next, andThen_next]
      refine ite_congr rfl (fun _ => rfl) fun hne => ih hsucc.legal ?_ ?_
      all_goals
        have hlt := hsucc.lt hne
        omega

theorem passDetects_of_fuel {s : State} (hs : s.mcStepLegal) {n m : Nat} (hn : 25 ≤ n + s.mcStep.toNat)
    (hm : 25 ≤ m + s.mcStep.toNat) : passDetects n s = passDetects m s := by
  induction n generalizing s m with
  | zero => exact absurd hs (by unfold State.mcStepLegal; omega)
  | succ n ih =>
    cases m with
    | zero => exact absurd hs (by unfold State.mcStepLegal; omega)
    | succ m =>
      cases hdet : stepDetects s with
      | some c => rw [passDetects_of_detected hdet, passDetects_of_detected hdet]
      | none =>
        obtain ⟨t, ht, hsucc⟩ := microStep_successor hs
        rw [passDetects_of_next hdet ht, passDetects_of_next hdet ht]
        refine ite_congr rfl (fun _ => rfl) fun hne => ih hsucc.legal ?_ ?_
        all_goals
          have hlt := hsucc.lt hne
          omega

/-- A POLL is a micro-step and the POLL from where that leads, unless it ends the pass. -/
theorem exec_poll_of_microStep {s t : State} (h : microStep s = .next t) :
    exec .poll s = if t.mcStep = 0 then .next t else exec .poll t := by
  obtain ⟨-, hlegal, hsucc⟩ := microStep_next_cases h
  show runPass (24 + 1) s = _
  rw [runPass_succ, h, andThen_next]
  refine ite_congr rfl (fun _ => rfl) fun hne => runPass_of_fuel hlegal ?_ ?_
  all_goals
    have hlt := hsucc.lt hne
    omega

theorem detects_poll_of_microStep {s t : State} (h : microStep s = .next t) (hs : stepDetects s = none) :
    detects .poll s = if t.mcStep = 0 then none else detects .poll t := by
  obtain ⟨-, hlegal, hsucc⟩ := microStep_next_cases h
  refine (passDetects_of_next (n := 24) hs h).trans (ite_congr rfl (fun _ => rfl) fun hne => passDetects_of_fuel hlegal ?_ ?_)
  all_goals
    have hlt := hsucc.lt hne
    omega

/-- Settles O44: the positions grow until one ends the pass. -/
theorem pollFinishesThePassInProgress : Obligations.PollFinishesThePassInProgress := by
  unfold Obligations.PollFinishesThePassInProgress
  refine fun s => ⟨fun hs => ?_, fun hs => ?_⟩
  · refine pass_induction (P := fun s => ∃ t, exec .poll s = .next t ∧ t.mcStep = 0) (fun s t _ hstep hrest => ?_) hs
    rw [exec_poll_of_microStep hstep]
    by_cases hend : t.mcStep = 0
    · exact ⟨t, if_pos hend, hend⟩
    · rw [if_neg hend]
      exact hrest hend
  · rw [exec_poll, runPass_succ, microStep_reserved hs, andThen_refused]

/-! ## Every step keeps the positions legal -/

/-- Every one-hot word is a legal PHASE. -/
theorem phaseOneHot_of_shift {s : State} {k : Nat} (hk : k < 8) (h : s.phase = 1#8 <<< k) : s.phaseOneHot := by
  unfold State.phaseOneHot
  rw [h]
  clear h
  revert k
  decide

theorem exec_tmr_positionsLegal {s t : State} (hs : s.positionsLegal) (h : exec .tmr s = .next t) : t.positionsLegal := by
  obtain ⟨-, ⟨k, hk, -, rfl⟩ | ⟨-, rfl⟩⟩ := exec_tmr_cases h
  · exact ⟨phaseOneHot_of_shift (k := k) (by omega) rfl, hs.2⟩
  · exact ⟨.inl rfl, hs.2⟩

/-- A stimulus that runs at legal positions, or a POR at any, ends at legal positions. -/
theorem exec_positionsLegal {i : Instr} {s t : State} (hi : i.site = .evt) (hs : s.positionsLegal ∨ i = .por)
    (h : exec i s = .next t) : t.positionsLegal := by
  have hreset : s.hardReset.positionsLegal := ⟨.inl rfl, Nat.zero_lt_succ 24⟩
  cases i <;> cases hi
  case por => cases h; exact hreset
  case wdtx => cases h; exact hreset
  all_goals
    have hs : s.positionsLegal := hs.resolve_right nofun
  case tmr => exact exec_tmr_positionsLegal hs h
  case rxc => exact ((exec_rxc_writesOnly h).congr State.positionsLegal).mpr hs
  case poll =>
    obtain ⟨u, hu, hend⟩ := (pollFinishesThePassInProgress s).1 hs.2
    cases hu.symm.trans h
    refine ⟨((exec_poll_writesOnly h).congr State.phaseOneHot).mpr hs.1, ?_⟩
    rw [State.mcStepLegal, hend]
    decide
  case mstep =>
    exact ⟨((microStep_writesOnly h).congr State.phaseOneHot).mpr hs.1, (microStep_next_cases h).2.1⟩
  case sw => cases h; exact hs

/-- Settles O52: what a step runs was admitted at legal positions, or is a POR. -/
theorem everyStepKeepsThePositionsLegal : Obligations.EveryStepKeepsThePositionsLegal := by
  unfold Obligations.EveryStepKeepsThePositionsLegal
  intro s t h
  obtain ⟨w, rest, i, -, -, hi, hadmit, hrun⟩ := step_cases h
  exact exec_positionsLegal (s := { s with stim := rest }) hi hadmit hrun

end Sys2Proof.Machine

/-! Every step keeps what the pass in progress has settled (R200 to R225). -/

namespace Sys2Proof.Machine

open Sys2Proof

/-- Writing a piece again changes nothing. -/
theorem replaceAddressPiece_idem (p : Piece) (dst src : BitVec 9) :
    replaceAddressPiece p (replaceAddressPiece p dst src) src = replaceAddressPiece p dst src := by
  cases p
  · exact congrArg (· ++ src.extractLsb' 0 8) (high_of_append _ _)
  · exact congrArg (src.extractLsb' 8 1 ++ ·) (low_of_append _ _)

/-- With the first piece of ADDRESS already the source's, the second makes it whole. -/
theorem replaceAddressPiece_second {o : ByteOrder} {a src : BitVec 9} (h : a = replaceAddressPiece (firstPiece o) a src) :
    replaceAddressPiece (secondPiece o) a src = src := by
  rw [h, replaceAddressPiece_both]

/-- A row that runs at its own position settles what holds at the next one: it writes nothing that is settled, and what is newly
settled there is what it wrote or tested. -/
theorem exec_mcsRow_passConsistent {i : Instr} {s t : State} (hi : i.site = .mcs) (hpos : s.mcStep.toNat = (encode i).toNat)
    (hs : s.passConsistent) (h : exec i s = .next t) : t.passConsistent := by
  obtain ⟨hrx, hmode, haddr, hpiece, hdmx, htmr, hrxOn, -, -, hfun, htmrFun, hrxOff, hled, -, -, -⟩ := id hs
  cases i <;> cases hi
  case mcDispatch =>
    cases (exec_mcDispatch s).symm.trans h
    have hkept := And.intro hrx (And.intro hmode haddr)
    cases hbranch : s.mode <;> simpa [State.passConsistent, hpos, encode, hbranch] using hkept
  case mcFundec =>
    cases (exec_mcFundec s).symm.trans h
    have hkept := And.intro hrx (And.intro hmode (And.intro haddr (And.intro hfun (And.intro htmrFun (And.intro hrxOff hled)))))
    simpa [State.passConsistent, hpos, encode] using hkept
  all_goals cases h
  case mcTest =>
    have hkept := And.intro hrx (And.intro hmode (And.intro haddr (And.intro hdmx (And.intro htmr hrxOn))))
    cases hloss : signalLost s.tosnap <;> simpa [State.passConsistent, hpos, encode, hloss] using hkept
  case mcWraddr0 =>
    have hkept := And.intro hrx hmode
    simpa [State.passConsistent, hpos, encode, replaceAddressPiece_idem] using hkept
  case mcWraddr1 =>
    have hkept := And.intro hrx hmode
    have hwhole := replaceAddressPiece_second (hpiece hpos)
    simpa [State.passConsistent, hpos, encode, hwhole] using hkept
  case mcIetmr1 | mcFietmr1 | mcIerx0 => simpa [State.passConsistent, hpos, encode] using hs.2
  case mcIerx1 =>
    have hkept := And.intro htmr (And.intro hmode (And.intro haddr (And.intro hdmx htmr)))
    simpa [State.passConsistent, hpos, encode] using hkept
  case mcLedslow | mcLedfast | mcFunb => simpa [State.passConsistent] using hrx
  all_goals simpa [State.passConsistent, hpos, encode] using hs

theorem microStep_passConsistent {s t : State} (hs : s.passConsistent) (h : microStep s = .next t) : t.passConsistent := by
  obtain ⟨i, hdec, hsite, hrow⟩ := microStep_cases h
  refine exec_mcsRow_passConsistent hsite ?_ hs hrow
  rw [(encode_of_decodeMcs hdec).2.2, BitVec.toNat_setWidth_of_le (by decide)]

/-- The receiver writes the display while reception is enabled, which it is not where the Fun bytes of the display are settled. -/
theorem exec_rxc_passConsistent {f : Bool} {d : Byte} {s t : State} (hs : s.passConsistent)
    (h : exec (.rxc f d) s = .next t) : t.passConsistent := by
  rcases exec_rxc_cases h with ⟨-, rfl⟩ | ⟨hOn, -⟩
  · exact hs
  · have hw := exec_rxc_writesOnly h
    have hrest : { t with disp := s.disp }.passConsistent :=
      (hw.congr fun u => { u with disp := s.disp }.passConsistent).mpr hs
    obtain ⟨c0, c3, c5, c4, c6, c7, c8, c11, c17, c18, c19, hrxOff, c21, c22, -, -⟩ := hrest
    have hOn : t.ieRx = true := (hw.congr State.ieRx).trans hOn
    have hbefore : ¬ 20 ≤ t.mcStep.toNat := fun hpos => Bool.noConfusion (hOn.symm.trans (hrxOff hpos))
    exact ⟨c0, c3, c5, c4, c6, c7, c8, c11, c17, c18, c19, hrxOff, c21, c22, fun hpos => absurd hpos (by omega),
      fun hpos => absurd hpos (by omega)⟩

/-- A reset starts a pass that has settled nothing. -/
theorem hardReset_passConsistent (s : State) : s.hardReset.passConsistent := by
  simp [State.passConsistent, State.reset]

/-- A stimulus keeps what the pass has settled. -/
theorem exec_passConsistent {i : Instr} {s t : State} (hi : i.site = .evt) (hs : s.passConsistent)
    (h : exec i s = .next t) : t.passConsistent := by
  cases i <;> cases hi
  case tmr => exact ((exec_tmr_writesOnly h).congr State.passConsistent).mpr hs
  case rxc => exact exec_rxc_passConsistent hs h
  case poll => exact runPass_preserves (fun _ _ => microStep_passConsistent) hs h
  case mstep => exact microStep_passConsistent hs h
  case sw => cases h; exact hs
  case wdtx => cases h; exact hardReset_passConsistent s
  case por => cases h; exact hardReset_passConsistent s

/-- Settles O53: consuming the word changes nothing that is settled, and the stimulus keeps it. -/
theorem everyStepKeepsThePassConsistent : Obligations.EveryStepKeepsThePassConsistent := by
  unfold Obligations.EveryStepKeepsThePassConsistent
  intro s t hs h
  obtain ⟨w, rest, i, -, -, hi, -, hrun⟩ := step_cases h
  exact exec_passConsistent (s := { s with stim := rest }) hi hs hrun

end Sys2Proof.Machine

/-! The admissible stimuli (R254), the reset values (R290), and the statements on single rows and on the display's writers. -/

namespace Sys2Proof.Machine

open Sys2Proof

/-! ## Single rows and the reset -/

/-- Settles O27: the pulse and the successor are all that MC.KICK writes. -/
theorem kickPulsesAndMovesOn : Obligations.KickPulsesAndMovesOn := by
  unfold Obligations.KickPulsesAndMovesOn
  exact ⟨rfl, fun s => detects_mcsRow s, fun s => rfl⟩

/-- Settles O40: the decode reads the switch word that the row's three fields make. -/
theorem switchDecodeGivesModeAndAddress : Obligations.SwitchDecodeGivesModeAndAddress := by
  unfold Obligations.SwitchDecodeGivesModeAndAddress
  intro m h a s
  obtain ⟨hmode, hhigh, hlow⟩ := Instr.swDecode.inj (decodeSww_switchWord m h a)
  refine ⟨s.decodeSwitches (switchWord m h a), rfl, rfl, ?_, ?_, fun k hk => ?_⟩
  · show (if (switchWord m h a).getLsbD 9 = s.cfg.modePinDmx then Mode.dmx else .funMode) = _
    rw [hmode]
  · exact (switchDecode_address_getLsbD (by decide) s.cfg _).trans (congrArg (!·) hlow)
  · have hpin : (switchWord m h a).getLsbD (k + 1) = h.getLsbD k := by
      rw [Nat.add_comm, ← (congrArg (·.getLsbD k) hhigh :), BitVec.getLsbD_extractLsb', decide_eq_true hk, Bool.true_and]
    exact (switchDecode_address_getLsbD (by omega) s.cfg _).trans (congrArg (!·) hpin)

/-- Settles O50: both resets are the one hard reset. -/
theorem resetLoadsEveryRegister : Obligations.ResetLoadsEveryRegister := by
  unfold Obligations.ResetLoadsEveryRegister
  exact fun s => ⟨s.hardReset, rfl, rfl, rfl⟩

/-- Settles O51: the hard reset keeps what the reset state already holds. -/
theorem resetStateIsSafe : Obligations.ResetStateIsSafe := by
  unfold Obligations.ResetStateIsSafe
  exact ⟨rfl, ⟨.inl rfl, Nat.zero_lt_succ 24⟩, hardReset_passConsistent State.reset, by decide⟩

/-! ## Admissible stimuli -/

/-- At legal positions every stimulus completes, a TMR if it is admitted. -/
theorem exec_completes {i : Instr} {s : State} (hi : i.site = .evt) (hs : s.positionsLegal)
    (htmr : i = .tmr → s.ieTmr = true) : ∃ t, exec i s = .next t := by
  cases i <;> cases hi
  case tmr =>
    rw [exec_tmr, timingInterrupt_enabled (htmr rfl)]
    rcases pwmHandler_of_oneHot hs.1 with ⟨k, -, -, hslice⟩ | ⟨-, hslice⟩
    · exact ⟨_, hslice⟩
    · exact ⟨_, hslice⟩
  case rxc f d =>
    cases hOn : s.ieRx with
    | true => exact (exec_rxc_enabled hOn f d) ▸ exec_rxcRow_next (encode_of_decodeRxc _).1 s
    | false => exact ⟨s, exec_rxc_disabled hOn f d⟩
  case poll =>
    obtain ⟨t, ht, -⟩ := (pollFinishesThePassInProgress s).1 hs.2
    exact ⟨t, ht⟩
  case mstep =>
    obtain ⟨t, ht, -⟩ := microStep_successor hs.2
    exact ⟨t, ht⟩
  all_goals exact ⟨_, rfl⟩

/-- No operation changes the stimulus list or the parameters. -/
theorem exec_stim_cfg {i : Instr} {s t : State} (h : exec i s = .next t) : t.stim = s.stim ∧ t.cfg = s.cfg := by
  rcases exec_cases h with hpwm | hrx | hmc | ⟨c, rfl⟩ | ⟨w, rfl⟩ | ⟨w, -, rfl⟩ | ⟨-, rfl⟩
  · exact ⟨hpwm.congr State.stim, hpwm.congr State.cfg⟩
  · exact ⟨hrx.congr State.stim, hrx.congr State.cfg⟩
  · exact ⟨(mcWritesOnly_of_rowRuns hmc).congr State.stim, (mcWritesOnly_of_rowRuns hmc).congr State.cfg⟩
  all_goals exact ⟨rfl, rfl⟩

/-- Settles O54: the word's stimulus is admitted, completes on the rest of the list, and keeps the positions legal. -/
theorem admissibleStimulusIsExecuted : Obligations.AdmissibleStimulusIsExecuted := by
  unfold Obligations.AdmissibleStimulusIsExecuted
  intro s w rest hs hstim ⟨⟨i, hdec⟩, htmr⟩
  have hsite : i.site = .evt := (encode_of_decodeStimulus hdec).1
  have hs' : { s with stim := rest }.positionsLegal := hs
  obtain ⟨t, ht⟩ := exec_completes hsite hs' (fun hi => htmr (hi ▸ hdec))
  obtain ⟨hlist, hcfg⟩ := exec_stim_cfg ht
  refine ⟨t, ?_, hlist, hcfg, exec_positionsLegal hsite (.inl hs') ht⟩
  rw [step_of_decodes hstim hdec, admitPosition_legal hs', ht]

/-! ## The writers of the display -/

/-- An executed RX.BREAK committed, or left the display and TIMEOUT alone (R163). -/
theorem exec_rxBreak_cases {s t : State} (h : exec .rxBreak s = .next t) :
    (s.good = true ∧ s.slot = s.lastlen ∧ t = s.commit.rearm) ∨ (t.disp = s.disp ∧ t.timeout = s.timeout) := by
  by_cases hlen : s.slot = s.lastlen
  · rw [exec_rxBreak, State.judgeLength_of_eq hlen] at h
    cases hgood : s.good with
    | true =>
      rw [State.commitIfGood_of_good hgood] at h
      cases h
      exact .inl ⟨rfl, hlen, rfl⟩
    | false =>
      rw [State.commitIfGood_of_not_good hgood] at h
      cases h
      exact .inr ⟨rfl, rfl⟩
  · exact .inr (exec_rxBreak_of_ne hlen h).2

/-- Only RX.BREAK, of the receiver's rows, writes the display or TIMEOUT. -/
theorem exec_rxcRow_disp_timeout {i : Instr} {s t : State} (hi : i.site = .rxc) (hne : i ≠ .rxBreak)
    (h : exec i s = .next t) : t.disp = s.disp ∧ t.timeout = s.timeout := by
  cases i <;> cases hi
  case rxBreak => exact absurd rfl hne
  case rxFerr d => cases h; exact ⟨rfl, rfl⟩
  case rxData d =>
    cases (dataByteIsTestedStoredAndCounted d s).2.2.symm.trans h
    exact ⟨rfl, rfl⟩

/-- A character committed, or left the display and TIMEOUT alone. -/
theorem exec_rxc_commit_cases {f : Bool} {d : Byte} {s t : State} (h : exec (.rxc f d) s = .next t) :
    (f = true ∧ d = 0 ∧ s.ieRx = true ∧ s.good = true ∧ s.slot = s.lastlen ∧ t = s.commit.rearm) ∨
    (t.disp = s.disp ∧ t.timeout = s.timeout) := by
  rcases exec_rxc_cases h with ⟨-, rfl⟩ | ⟨hOn, hrow⟩
  · exact .inr ⟨rfl, rfl⟩
  · by_cases hbreak : f = true ∧ d = 0
    · obtain ⟨rfl, rfl⟩ := hbreak
      rcases exec_rxBreak_cases hrow with ⟨hgood, hlen, rfl⟩ | hkeep
      · exact .inl ⟨rfl, rfl, hOn, hgood, hlen, rfl⟩
      · exact .inr hkeep
    · refine .inr (exec_rxcRow_disp_timeout (encode_of_decodeRxc _).1 ?_ hrow)
      rw [everyCharacterSelectsOneOperation, if_neg hbreak]
      cases f <;> nofun

/-- A row of the mode controller that changes the display, at its own position, wrote one byte of it. -/
theorem exec_mcsRow_disp {i : Instr} {s t : State} (hi : i.site = .mcs) (hpos : s.mcStep = (encode i).setWidth 5)
    (h : exec i s = .next t) (hne : t.disp ≠ s.disp) :
    (s.mcStep = 11 ∧ t.disp = ⟨0, s.disp.g, s.disp.b⟩) ∨ (s.mcStep = 12 ∧ t.disp = ⟨s.disp.r, 0, s.disp.b⟩) ∨
    (s.mcStep = 13 ∧ t.disp = ⟨s.disp.r, s.disp.g, 0⟩) ∨ (s.mcStep = 22 ∧ t.disp = ⟨s.funcol.r, s.disp.g, s.disp.b⟩) ∨
    (s.mcStep = 23 ∧ t.disp = ⟨s.disp.r, s.funcol.g, s.disp.b⟩) ∨
    (s.mcStep = 24 ∧ t.disp = ⟨s.disp.r, s.disp.g, s.funcol.b⟩) := by
  cases i <;> cases hi
  case mcFundec =>
    cases (exec_mcFundec s).symm.trans h
    exact absurd rfl hne
  all_goals cases h
  case mcBlkr => exact .inl ⟨hpos, rfl⟩
  case mcBlkg => exact .inr (.inl ⟨hpos, rfl⟩)
  case mcBlkb => exact .inr (.inr (.inl ⟨hpos, rfl⟩))
  case mcFunr => exact .inr (.inr (.inr (.inl ⟨hpos, rfl⟩)))
  case mcFung => exact .inr (.inr (.inr (.inr (.inl ⟨hpos, rfl⟩))))
  case mcFunb => exact .inr (.inr (.inr (.inr (.inr ⟨hpos, rfl⟩))))
  all_goals exact absurd rfl hne

/-- Settles O49: the receiver writes the display as a whole, and of the rows of the mode controller six write one byte of it. -/
theorem displayChangesOnlyByItsWriters : Obligations.DisplayChangesOnlyByItsWriters := by
  unfold Obligations.DisplayChangesOnlyByItsWriters
  intro i s t hi h hne
  cases i <;> cases hi
  case tmr => exact absurd ((exec_tmr_writesOnly h).congr State.disp) hne
  case rxc f d =>
    rcases exec_rxc_commit_cases h with ⟨rfl, rfl, hOn, hgood, hlen, rfl⟩ | ⟨hkeep, -⟩
    · exact .inr (.inr (.inl ⟨rfl, hOn, hgood, hlen, rfl, rfl⟩))
    · exact absurd hkeep hne
  case poll => exact .inr (.inl rfl)
  case mstep =>
    refine .inr (.inr (.inr ⟨rfl, ?_⟩))
    obtain ⟨j, hdec, hsite, hrow⟩ := microStep_cases h
    have hpos := mcStep_of_decodeMcs hdec
    exact exec_mcsRow_disp hsite hpos hrow hne
  case sw => cases h; exact absurd rfl hne
  case wdtx => exact .inl rfl
  case por => exact .inl rfl

end Sys2Proof.Machine

/-! The statements on whole passes (R200, R238) and on what comes between their micro-steps (R304, R305). -/

namespace Sys2Proof.Machine

open Sys2Proof

/-! ## Micro-steps within one pass -/

/-- `n` micro-steps lead from `s` to `t`, and none of them ends the pass. -/
inductive WithinPass : Nat → State → State → Prop
  | start (s : State) : WithinPass 0 s s
  | step {n : Nat} {s t u : State} (h : microStep s = .next t) (hne : t.mcStep ≠ 0) (rest : WithinPass n t u) :
      WithinPass (n + 1) s u

/-- A micro-step to another position than the pass's start is within the pass. -/
theorem WithinPass.next {n : Nat} {s t u : State} (m : BitVec 5) (h : microStep s = .next t) (rest : WithinPass n t u)
    (hm : t.mcStep = m := by rfl) (hne : m ≠ 0 := by decide) : WithinPass (n + 1) s u :=
  .step h (hm.symm ▸ hne) rest

theorem WithinPass.append {m n : Nat} {s t u : State} (h : WithinPass m s t) (k : WithinPass n t u) :
    WithinPass (n + m) s u := by
  induction h with
  | start => exact k
  | step hstep hne _ ih => exact .step hstep hne (ih k)

theorem WithinPass.execAll {n : Nat} {s t : State} (h : WithinPass n s t) : execAll (List.replicate n .mstep) s = .next t := by
  induction h with
  | start s => rfl
  | step hstep _ _ ih => exact (execAll_cons_of_next (i := .mstep) hstep).trans ih

/-- The POLL at the start of the micro-steps is the POLL at their end. -/
theorem WithinPass.exec_poll {n : Nat} {s t : State} (h : WithinPass n s t) : exec .poll s = exec .poll t := by
  induction h with
  | start s => rfl
  | step hstep hne _ ih => rw [exec_poll_of_microStep hstep, if_neg hne, ih]

/-- Every part of the way is within the pass. -/
theorem WithinPass.take {n : Nat} {s t : State} (h : WithinPass n s t) {k : Nat} (hk : k ≤ n) : ∃ u, WithinPass k s u := by
  induction h generalizing k with
  | start s =>
    obtain rfl : k = 0 := by omega
    exact ⟨s, .start s⟩
  | @step n s t u hstep hne rest ih =>
    cases k with
    | zero => exact ⟨s, .start s⟩
    | succ k =>
      obtain ⟨v, hv⟩ := ih (Nat.le_of_succ_le_succ hk)
      exact ⟨v, .step hstep hne hv⟩

/-- After at least one micro-step of it, a pass in progress is not at its start. -/
theorem WithinPass.mcStep_ne_zero {n : Nat} {s t : State} (h : WithinPass n s t) (hn : 0 < n) : t.mcStep ≠ 0 := by
  induction h with
  | start => exact absurd hn (by decide)
  | step _ hne rest ih =>
    cases rest with
    | start => exact hne
    | step => exact ih (Nat.succ_pos _)

/-! ## The parts of a pass -/

/-- The two micro-steps that write ADDRESS (R204, R205). -/
theorem withinPass_address {s : State} (h : s.mcStep = 3) :
    WithinPass 2 s { s with
      address := (switchDecode s.cfg s.swlatch).address, swSetting := switchDecode s.cfg s.swlatch, mcStep := 5 } := by
  have hrows : WithinPass 2 s ((s.stepAddress (firstPiece s.cfg.addressOrder) 4).stepAddress (secondPiece s.cfg.addressOrder) 5) :=
    .next 4 (microStep_at_3 h) (.next 5 (microStep_at_4 rfl) (.start _))
  have hboth : (s.stepAddress (firstPiece s.cfg.addressOrder) 4).stepAddress (secondPiece s.cfg.addressOrder) 5 =
      { s with
        address := (switchDecode s.cfg s.swlatch).address, swSetting := switchDecode s.cfg s.swlatch, mcStep := 5 } := by
    simp only [State.stepAddress, State.decodeSwitches, State.writeAddressPiece, State.goto, replaceAddressPiece_both]
  exact hboth ▸ hrows

/-- The micro-steps before the branch: the kick, the switch word, the mode and the address (R201 to R205). -/
theorem withinPass_head {s : State} (h : s.mcStep = 0) :
    WithinPass 5 s { s with
      wdtKicks := s.wdtKicks + 1, swlatch := s.pins, swSetting := switchDecode s.cfg s.pins
      mode := (switchDecode s.cfg s.pins).mode, address := (switchDecode s.cfg s.pins).address, mcStep := 5 } := by
  have hrows := WithinPass.next 1 (microStep_at_0 h)
    (.next 2 (microStep_at_1 rfl) (.next 3 (microStep_at_2 rfl) (withinPass_address rfl)))
  simpa only [State.kick, State.sampleSwitches, State.decodeSwitches, State.writeMode, State.goto] using hrows

/-- MC.DISPATCH in DMX mode (R206). -/
theorem microStep_dispatch_dmx {s : State} (h : s.mcStep = 5) (hmode : s.mode = .dmx) : microStep s = .next (s.goto 6) := by
  rw [microStep_at_5 h]
  exact (exec_mcDispatch s).trans (by rw [if_pos hmode])

/-- MC.DISPATCH in Fun mode (R206). -/
theorem microStep_dispatch_fun {s : State} (h : s.mcStep = 5) (hmode : s.mode = .funMode) :
    microStep s = .next (s.goto 18) := by
  rw [microStep_at_5 h]
  exact (exec_mcDispatch s).trans (by rw [if_neg (hmode ▸ nofun)])

/-- The two micro-steps that read TIMEOUT (R209, R210). -/
theorem withinPass_snapshot {s : State} (h : s.mcStep = 8) : WithinPass 2 s { s with tosnap := s.timeout, mcStep := 10 } := by
  have hrows : WithinPass 2 s ((((s.snapTimeoutPiece (firstPiece s.cfg.timeoutReadOrder)).goto 9).snapTimeoutPiece
      (secondPiece s.cfg.timeoutReadOrder)).goto 10) :=
    .next 9 (microStep_at_8 h) (.next 10 (microStep_at_9 rfl) (.start _))
  simpa only [State.snapTimeoutPiece, State.goto, replacePiece_both] using hrows

/-- The DMX branch up to the loss test (R206 to R210). -/
theorem withinPass_dmx {s : State} (h : s.mcStep = 5) (hmode : s.mode = .dmx) :
    WithinPass 5 s { s with ieTmr := true, ieRx := true, tosnap := s.timeout, mcStep := 10 } := by
  have hrows := WithinPass.next 6 (microStep_dispatch_dmx h hmode)
    (.next 7 (microStep_at_6 rfl) (.next 8 (microStep_at_7 rfl) (withinPass_snapshot rfl)))
  simpa only [State.enableTmr, State.setIeRx, State.goto] using hrows

/-- MC.TEST with the signal lost (R211). -/
theorem microStep_test_loss {s : State} (h : s.mcStep = 10) (hlost : signalLost s.tosnap = true) :
    microStep s = .next (s.goto 11) := by
  rw [microStep_at_10 h, execMcTest, if_pos hlost]

/-- MC.TEST with a signal (R211). -/
theorem microStep_test_signal {s : State} (h : s.mcStep = 10) (hlost : signalLost s.tosnap = false) :
    microStep s = .next (s.goto 17) := by
  rw [microStep_at_10 h, execMcTest, if_neg (Bool.eq_false_iff.mp hlost)]

/-- The two micro-steps of the clamp (R215, R216). -/
theorem withinPass_clamp {s : State} (h : s.mcStep = 14) : WithinPass 2 s { s with timeout := 480, mcStep := 16 } := by
  have hrows : WithinPass 2 s ((((s.clampTimeoutPiece (firstPiece s.cfg.timeoutWriteOrder)).goto 15).clampTimeoutPiece
      (secondPiece s.cfg.timeoutWriteOrder)).goto 16) :=
    .next 15 (microStep_at_14 h) (.next 16 (microStep_at_15 rfl) (.start _))
  simp only [State.clampTimeoutPiece, State.goto, replacePiece_both] at hrows
  exact hrows

/-- From MC.BLKB to the indicator (R214 to R216). -/
theorem withinPass_blackBlue {s : State} (h : s.mcStep = 13) :
    WithinPass 3 s { s with disp := ⟨s.disp.r, s.disp.g, 0⟩, timeout := 480, mcStep := 16 } :=
  .next 14 (microStep_at_13 h) (withinPass_clamp rfl)

/-- From MC.BLKG to the indicator (R213 to R216). -/
theorem withinPass_blackGreen {s : State} (h : s.mcStep = 12) :
    WithinPass 4 s { s with disp := ⟨s.disp.r, 0, 0⟩, timeout := 480, mcStep := 16 } :=
  .next 13 (microStep_at_12 h) (withinPass_blackBlue rfl)

/-- From MC.BLKR to the indicator (R212 to R216). -/
theorem withinPass_blackRed {s : State} (h : s.mcStep = 11) :
    WithinPass 5 s { s with disp := ⟨0, 0, 0⟩, timeout := 480, mcStep := 16 } :=
  .next 12 (microStep_at_11 h) (withinPass_blackGreen rfl)

/-- The loss branch from the test to the indicator (R211 to R216). -/
theorem withinPass_loss {s : State} (h : s.mcStep = 10) (hlost : signalLost s.tosnap = true) :
    WithinPass 6 s { s with disp := ⟨0, 0, 0⟩, timeout := 480, mcStep := 16 } :=
  .next 11 (microStep_test_loss h hlost) (withinPass_blackRed rfl)

/-- The Fun branch but for its last byte of the display (R219 to R224). -/
theorem withinPass_fun {s : State} (h : s.mcStep = 5) (hmode : s.mode = .funMode) :
    WithinPass 7 s { s with
      ieTmr := true, ieRx := false, led := true, funcol := funColour s.address
      disp := ⟨(funColour s.address).r, (funColour s.address).g, s.disp.b⟩, mcStep := 24 } := by
  have hrows := WithinPass.next 18 (microStep_dispatch_fun h hmode) (.next 19 (microStep_at_18 rfl) (.next 20 (microStep_at_19 rfl)
    (.next 21 (microStep_at_20 rfl) (.next 22 ((microStep_at_21 rfl).trans (exec_mcFundec _))
      (.next 23 (microStep_at_22 rfl) (.next 24 (microStep_at_23 rfl) (.start _)))))))
  simpa only [State.enableTmr, State.setIeRx, State.setLed, State.setFuncol, State.setDispRed, State.setDispGreen, State.goto]
    using hrows

/-! ## Whole passes -/

/-- `n` micro-steps from `s` end the pass for the first time, in `t`. -/
def EndsPass (n : Nat) (s t : State) : Prop := ∃ m u, n = m + 1 ∧ WithinPass m s u ∧ microStep u = .next t ∧ t.mcStep = 0

theorem EndsPass.exec_poll {n : Nat} {s t : State} (h : EndsPass n s t) : exec .poll s = .next t := by
  obtain ⟨m, u, -, hpass, hlast, hend⟩ := h
  rw [hpass.exec_poll, exec_poll_of_microStep hlast, if_pos hend]

theorem EndsPass.execAll {n : Nat} {s t : State} (h : EndsPass n s t) :
    execAll (List.replicate n .mstep) s = .next t := by
  obtain ⟨m, u, rfl, hpass, hlast, -⟩ := h
  rw [List.replicate_succ', execAll_append, hpass.execAll]
  exact execAll_cons_of_next (i := .mstep) hlast

theorem EndsPass.mcStep {n : Nat} {s t : State} (h : EndsPass n s t) : t.mcStep = 0 := by
  obtain ⟨-, -, -, -, -, hend⟩ := h
  exact hend

/-- The state a whole pass leaves (R238): the switches followed, and the branch's writes. -/
def passResult (s : State) : State :=
  if s.pins.getLsbD 9 = s.cfg.modePinDmx then
    if 480 ≤ s.timeout.toNat then
      { s with
        wdtKicks := s.wdtKicks + 1, swlatch := s.pins, swSetting := switchDecode s.cfg s.pins
        mode := .dmx, address := ~~~(s.pins.extractLsb' 0 9), ieTmr := true, ieRx := true, tosnap := s.timeout
        disp := ⟨0, 0, 0⟩, timeout := 480, led := s.tick.getLsbD s.cfg.slowBit.val }
    else
      { s with
        wdtKicks := s.wdtKicks + 1, swlatch := s.pins, swSetting := switchDecode s.cfg s.pins
        mode := .dmx, address := ~~~(s.pins.extractLsb' 0 9), ieTmr := true, ieRx := true, tosnap := s.timeout
        led := s.tick.getLsbD s.cfg.fastBit.val }
  else
    { s with
      wdtKicks := s.wdtKicks + 1, swlatch := s.pins, swSetting := switchDecode s.cfg s.pins
      mode := .funMode, address := ~~~(s.pins.extractLsb' 0 9), ieTmr := true, ieRx := false, led := true
      funcol := funColour (~~~(s.pins.extractLsb' 0 9)), disp := funColour (~~~(s.pins.extractLsb' 0 9)) }

theorem switchDecode_address (c : Config) (w : BitVec 10) : (switchDecode c w).address = ~~~(w.extractLsb' 0 9) := rfl

theorem switchDecode_mode_dmx {c : Config} {w : BitVec 10} (h : w.getLsbD 9 = c.modePinDmx) :
    (switchDecode c w).mode = .dmx := if_pos h

theorem switchDecode_mode_fun {c : Config} {w : BitVec 10} (h : w.getLsbD 9 ≠ c.modePinDmx) :
    (switchDecode c w).mode = .funMode := if_neg h

/-- From the start of a pass in DMX mode to its loss test. -/
theorem withinPass_toTest {s : State} (h : s.mcStep = 0) (hmode : s.pins.getLsbD 9 = s.cfg.modePinDmx) :
    WithinPass 10 s { s with
      wdtKicks := s.wdtKicks + 1, swlatch := s.pins, swSetting := switchDecode s.cfg s.pins
      mode := .dmx, address := ~~~(s.pins.extractLsb' 0 9), ieTmr := true, ieRx := true, tosnap := s.timeout
      mcStep := 10 } := by
  have hmode := switchDecode_mode_dmx hmode
  have hrows := (withinPass_head h).append (withinPass_dmx rfl hmode)
  simpa only [hmode, switchDecode_address] using hrows

theorem endsPass_loss {s : State} (h : s.mcStep = 0) (hmode : s.pins.getLsbD 9 = s.cfg.modePinDmx)
    (hlost : 480 ≤ s.timeout.toNat) : EndsPass 17 s (passResult s) := by
  have hrows := (withinPass_toTest h hmode).append (withinPass_loss rfl (signalLost_eq_true.mpr hlost))
  have hresult : (passResult s).mcStep = 0 := by rw [passResult, if_pos hmode, if_pos hlost, h]
  refine ⟨16, _, rfl, hrows, ?_, hresult⟩
  rw [microStep_at_16 rfl]
  simp only [execMcLedslow, State.setLed, State.goto, slowBlink, passResult, if_pos hmode, if_pos hlost, h]

theorem endsPass_signal {s : State} (h : s.mcStep = 0) (hmode : s.pins.getLsbD 9 = s.cfg.modePinDmx)
    (hsignal : ¬ 480 ≤ s.timeout.toNat) : EndsPass 12 s (passResult s) := by
  have hverdict : signalLost s.timeout = false := Bool.eq_false_iff.mpr (signalLost_eq_true.not.mpr hsignal)
  have hrows := (withinPass_toTest h hmode).append (.next 17 (microStep_test_signal rfl hverdict) (.start _))
  have hresult : (passResult s).mcStep = 0 := by rw [passResult, if_pos hmode, if_neg hsignal, h]
  refine ⟨11, _, rfl, hrows, ?_, hresult⟩
  rw [microStep_at_17 rfl]
  simp only [execMcLedfast, State.setLed, State.goto, fastBlink, passResult, if_pos hmode, if_neg hsignal, h]

theorem endsPass_fun {s : State} (h : s.mcStep = 0) (hmode : s.pins.getLsbD 9 ≠ s.cfg.modePinDmx) :
    EndsPass 13 s (passResult s) := by
  have hfun := switchDecode_mode_fun hmode
  have hrows := (withinPass_head h).append (withinPass_fun rfl hfun)
  have hresult : (passResult s).mcStep = 0 := by rw [passResult, if_neg hmode, h]
  refine ⟨12, _, rfl, hrows, ?_, hresult⟩
  rw [microStep_at_24 rfl]
  simp only [execMcFunb, State.setDispBlue, State.goto, passResult, if_neg hmode, h, hfun, switchDecode_address]

/-- How many micro-steps a pass has that starts in `s` (R200). -/
def passLength (s : State) : Nat :=
  if s.pins.getLsbD 9 = s.cfg.modePinDmx then (if 480 ≤ s.timeout.toNat then 17 else 12) else 13

/-- A whole pass, by its branch. -/
theorem endsPass {s : State} (h : s.mcStep = 0) : EndsPass (passLength s) s (passResult s) := by
  by_cases hmode : s.pins.getLsbD 9 = s.cfg.modePinDmx
  · by_cases hlost : 480 ≤ s.timeout.toNat
    · rw [passLength, if_pos hmode, if_pos hlost]
      exact endsPass_loss h hmode hlost
    · rw [passLength, if_pos hmode, if_neg hlost]
      exact endsPass_signal h hmode hlost
  · rw [passLength, if_neg hmode]
    exact endsPass_fun h hmode

/-- Settles O43: POLL runs the whole pass. -/
theorem pollHasTheNetEffectOfAPass : Obligations.PollHasTheNetEffectOfAPass := by
  unfold Obligations.PollHasTheNetEffectOfAPass
  exact fun s h => (endsPass h).exec_poll

/-- Settles O42: the pass ends after its last micro-step and not before. -/
theorem passesTakeTheirNumberOfMicroSteps : Obligations.PassesTakeTheirNumberOfMicroSteps := by
  unfold Obligations.PassesTakeTheirNumberOfMicroSteps
  intro s n h hn
  have hpass : EndsPass n s (passResult s) := hn ▸ endsPass h
  refine ⟨⟨_, hpass.execAll, hpass.mcStep, hpass.exec_poll⟩, fun k hpos hk => ?_⟩
  obtain ⟨m, u, rfl, hrows, -, -⟩ := hpass
  obtain ⟨v, hv⟩ := hrows.take (Nat.le_of_lt_succ hk)
  exact ⟨v, hv.execAll, hv.mcStep_ne_zero hpos⟩

/-- What the boot needs of a whole pass: the enables by the mode, and the address (R294). -/
theorem passResult_boot (s : State) : (passResult s).ieTmr = true ∧
    ((passResult s).ieRx = true ↔ s.pins.getLsbD 9 = s.cfg.modePinDmx) ∧
    (passResult s).address = ~~~(s.pins.extractLsb' 0 9) := by
  unfold passResult
  split
  next hmode => split <;> exact ⟨rfl, iff_of_true rfl hmode, rfl⟩
  next hmode => exact ⟨rfl, iff_of_false Bool.false_ne_true hmode, rfl⟩

/-- An admitted TMR at PHASE = 0x80 is PWM.P7. -/
theorem exec_tmr_first {s : State} (hOn : s.ieTmr = true) (hphase : s.phase = 0x80) : exec .tmr s = exec .pwmP7 s :=
  (timingInterrupt_enabled hOn pwmHandler).trans (pwmHandler_at_7 hphase)

/-- Settles O56: the reset state has both enables off and MC_STEP = 0, and its pass keeps PHASE. -/
theorem firstPassAfterResetIsTheBoot : Obligations.FirstPassAfterResetIsTheBoot := by
  unfold Obligations.FirstPassAfterResetIsTheBoot
  intro s
  obtain ⟨r, hr⟩ : ∃ r, s.hardReset = r := ⟨_, rfl⟩
  have hdark : r.ieTmr = false ∧ r.ieRx = false ∧ r.phase = 0x80 ∧ r.mcStep = 0 := hr ▸ ⟨rfl, rfl, rfl, rfl⟩
  have hkept : r.pins = s.pins ∧ r.cfg = s.cfg := hr ▸ ⟨rfl, rfl⟩
  obtain ⟨htmr, hrx, hphase, hstart⟩ := hdark
  obtain ⟨hpins, hcfg⟩ := hkept
  have hpoll : exec .poll r = .next (passResult r) := (endsPass hstart).exec_poll
  have hfirst : (passResult r).phase = 0x80 := ((exec_poll_writesOnly hpoll).congr State.phase).trans hphase
  obtain ⟨hOn, hRx, haddr⟩ := passResult_boot r
  rw [hpins, hcfg] at hRx
  rw [hpins] at haddr
  obtain ⟨u, hu⟩ : ∃ u, exec .pwmP7 (passResult r) = .next u := ⟨_, rfl⟩
  refine ⟨r, passResult r, u, hr ▸ rfl, fun v hv => ?_, exec_rxc_disabled hrx, hpoll, hOn, hRx, haddr,
    (exec_tmr_first hOn hfirst).trans hu, hu⟩
  cases (timingInterrupt_disabled htmr pwmHandler).symm.trans hv

/-! ## Between the micro-steps -/

/-- Settles O46: one byte of the snapshot is that of TIMEOUT before the cycle is counted, the other that of TIMEOUT after. -/
theorem timeoutReadCanBeTorn : Obligations.TimeoutReadCanBeTorn := by
  unfold Obligations.TimeoutReadCanBeTorn
  intro s h hOn hphase
  have hcount : (s.timeout + 1).toNat = (s.timeout.toNat + 1) % 65536 := BitVec.toNat_add _ _
  have hbound : s.timeout.toNat < 65536 := s.timeout.isLt
  refine ⟨_, (execAll_cons_of_next (i := .mstep) (microStep_at_8 h)).trans
    (execAll_pair (j := .mstep) (exec_tmr_last hOn hphase) ((exec_mstep _).trans (microStep_at_9 rfl))), rfl, fun horder => ?_, fun horder => ?_⟩
  · show (replacePiece (secondPiece s.cfg.timeoutReadOrder)
      (replacePiece (firstPiece s.cfg.timeoutReadOrder) s.tosnap s.timeout) (s.timeout + 1)).toNat = _
    rw [horder, firstPiece, secondPiece, replacePiece_high_toNat, replacePiece_low_toNat, hcount]
    omega
  · show (replacePiece (secondPiece s.cfg.timeoutReadOrder)
      (replacePiece (firstPiece s.cfg.timeoutReadOrder) s.tosnap s.timeout) (s.timeout + 1)).toNat = _
    rw [horder, firstPiece, secondPiece, replacePiece_low_toNat, replacePiece_high_toNat, hcount]
    omega

/-- The last micro-step of the clamp after a commit (R216): the one byte it writes, beside 0. -/
theorem clampTimeoutPiece_second_of_zero {s : State} (h : s.timeout = 0) :
    (s.clampTimeoutPiece (secondPiece s.cfg.timeoutWriteOrder)).timeout =
      match s.cfg.timeoutWriteOrder with | .lowFirst => 256 | .highFirst => 224 := by
  rw [State.clampTimeoutPiece, h]
  cases s.cfg.timeoutWriteOrder <;> rfl

/-- Settles O47: the commit comes first, and the rest of the pass writes over it what it has not written before. -/
theorem commitInALossPass : Obligations.CommitInALossPass := by
  unfold Obligations.CommitInALossPass
  intro s hOn hgood hlen
  have hrest (is : List Instr) : execAll (.rxc true 0 :: is) s = execAll is s.commit.rearm :=
    execAll_cons_of_next (exec_break_commits hOn hgood hlen)
  simp only [hrest]
  refine ⟨fun h hlost => ?_, fun h => ?_, fun h => ?_, fun h => ?_, fun h => ?_, fun h => ?_, fun h => ?_⟩
  · exact ⟨_, (withinPass_loss (s := s.commit.rearm) h (signalLost_eq_true.mpr hlost)).execAll, rfl, rfl, rfl⟩
  · exact ⟨_, (withinPass_blackRed (s := s.commit.rearm) h).execAll, rfl, rfl, rfl⟩
  · exact ⟨_, (withinPass_blackGreen (s := s.commit.rearm) h).execAll, rfl, rfl, rfl⟩
  · exact ⟨_, (withinPass_blackBlue (s := s.commit.rearm) h).execAll, rfl, rfl, rfl⟩
  · exact ⟨_, (withinPass_clamp (s := s.commit.rearm) h).execAll, rfl, rfl, rfl⟩
  · exact ⟨_, execAll_cons_of_next (i := .mstep) (microStep_at_15 (s := s.commit.rearm) h), rfl, rfl,
      clampTimeoutPiece_second_of_zero rfl⟩
  · exact ⟨_, execAll_cons_of_next (i := .mstep) (microStep_at_16 (s := s.commit.rearm) h), rfl, rfl, rfl⟩

end Sys2Proof.Machine

/-! The statements on who detects signal loss (R211, R250) and on the writers of TIMEOUT and ADDRESS (R41) over whole passes. -/

namespace Sys2Proof.Machine

open Sys2Proof

/-! ## What a micro-step and a pass detect -/

/-- Of the rows of the mode controller, MC.TEST alone detects a condition. -/
theorem rowDetects_mcsRow {i : Instr} (hi : i.site = .mcs) (s : State) :
    rowDetects i s = if (encode i).setWidth 5 = (10 : BitVec 5) ∧ 480 ≤ s.tosnap.toNat then some .x4 else none := by
  cases i <;> cases hi
  case mcTest => exact if_congr (signalLost_eq_true.trans (and_iff_right rfl).symm) rfl rfl
  all_goals exact (if_neg fun h => absurd h.1 (by decide)).symm

/-- A micro-step detects X4 at MC.TEST with the snapshot at loss, and nothing else (R211). -/
theorem stepDetects_eq (s : State) :
    stepDetects s = if s.mcStep = 10 ∧ 480 ≤ s.tosnap.toNat then some .x4 else none := by
  cases hdec : decodeMcs s.mcStep with
  | ok i =>
    have hrow : stepDetects s = rowDetects i s := by rw [stepDetects, hdec]
    rw [hrow, rowDetects_mcsRow (encode_of_decodeMcs hdec).1, ← mcStep_of_decodeMcs hdec]
  | error r =>
    have hnone : stepDetects s = none := by rw [stepDetects, hdec]
    have hne : s.mcStep ≠ 10 := by
      rintro h
      rw [h] at hdec
      cases hdec
    rw [hnone, if_neg fun h => hne h.1]

theorem stepDetects_of_ne {s : State} (h : s.mcStep ≠ 10) : stepDetects s = none := by
  rw [stepDetects_eq, if_neg fun h' => h h'.1]

/-- What a pass detects is nothing, the X4 of its first micro-step, or what the pass detects from the next one on. -/
theorem passDetects_succ_cases (n : Nat) (s : State) :
    passDetects (n + 1) s = none ∨
    (passDetects (n + 1) s = some .x4 ∧ s.mcStep = 10 ∧ 480 ≤ s.tosnap.toNat) ∨
    ∃ t, microStep s = .next t ∧ t.mcStep ≠ 0 ∧ passDetects (n + 1) s = passDetects n t := by
  by_cases hloss : s.mcStep = 10 ∧ 480 ≤ s.tosnap.toNat
  · exact .inr (.inl ⟨passDetects_of_detected ((stepDetects_eq s).trans (if_pos hloss)), hloss⟩)
  · have hquiet : stepDetects s = none := (stepDetects_eq s).trans (if_neg hloss)
    by_cases hs : s.mcStepLegal
    · obtain ⟨t, ht, -⟩ := microStep_successor hs
      rw [passDetects_of_next hquiet ht]
      by_cases hend : t.mcStep = 0
      · exact .inl (if_pos hend)
      · exact .inr (.inr ⟨t, ht, hend, if_neg hend⟩)
    · have hstuck := microStep_reserved hs
      exact .inl (by simp only [passDetects, hquiet, hstuck])

/-- A pass detects X4 or nothing. -/
theorem passDetects_cases (n : Nat) (s : State) : passDetects n s = none ∨ passDetects n s = some .x4 := by
  induction n generalizing s with
  | zero => exact .inl rfl
  | succ n ih =>
    rcases passDetects_succ_cases n s with hnone | ⟨hloss, -⟩ | ⟨t, -, -, hrest⟩
    · exact .inl hnone
    · exact .inr hloss
    · rw [hrest]
      exact ih t

/-- A pass that detects X4 has MC.TEST before it, with the snapshot at loss. -/
theorem withinPass_of_passDetects {n : Nat} {s : State} (h : passDetects n s = some .x4) :
    ∃ k t, WithinPass k s t ∧ t.mcStep = 10 ∧ 480 ≤ t.tosnap.toNat := by
  induction n generalizing s with
  | zero => cases h
  | succ n ih =>
    rcases passDetects_succ_cases n s with hnone | ⟨-, hloss⟩ | ⟨t, hstep, hne, hrest⟩
    · cases hnone.symm.trans h
    · exact ⟨0, s, .start s, hloss⟩
    · obtain ⟨k, u, hpass, hloss⟩ := ih (hrest.symm.trans h)
      exact ⟨k + 1, u, .step hstep hne hpass, hloss⟩

/-- Within a pass the position grows. -/
theorem WithinPass.mcStep_le {n : Nat} {s t : State} (h : WithinPass n s t) : s.mcStep.toNat ≤ t.mcStep.toNat := by
  induction h with
  | start => exact le_rfl
  | step hstep hne _ ih =>
    obtain ⟨-, -, hsucc⟩ := microStep_next_cases hstep
    exact (hsucc.lt hne).le.trans ih

/-- A POLL from behind MC.TEST detects nothing. -/
theorem detects_poll_of_gt {s : State} (h : 10 < s.mcStep.toNat) : detects .poll s = none := by
  refine (passDetects_cases 25 s).resolve_right fun hloss => ?_
  obtain ⟨k, t, hpass, hpos, -⟩ := withinPass_of_passDetects hloss
  have hle := hpass.mcStep_le
  rw [hpos] at hle
  exact absurd h (Nat.not_lt_of_le hle)

/-- A POLL whose first micro-step detects nothing and goes behind MC.TEST detects nothing. -/
theorem detects_poll_of_next_gt {s t : State} (hstep : microStep s = .next t) (hquiet : stepDetects s = none)
    (h : 10 < t.mcStep.toNat) : detects .poll s = none := by
  rw [detects_poll_of_microStep hstep hquiet]
  split
  · rfl
  · exact detects_poll_of_gt h

/-- Up to MC.TEST, what POLL detects is what it detects from further on in the pass. -/
theorem WithinPass.detects_poll {n : Nat} {s t : State} (h : WithinPass n s t) (ht : t.mcStep.toNat ≤ 10) :
    detects .poll s = detects .poll t := by
  induction h with
  | start => rfl
  | @step n s t u hstep hne rest ih =>
    have hlt := (microStep_next_cases hstep).2.2.lt hne
    have hle := rest.mcStep_le
    have hquiet : stepDetects s = none := stepDetects_of_ne fun h => by
      rw [h] at hlt
      exact absurd (hlt.trans_le (hle.trans ht)) (lt_irrefl _)
    rw [detects_poll_of_microStep hstep hquiet, if_neg hne, ih ht]

/-- What POLL detects at MC.TEST. -/
theorem detects_poll_at_test {s : State} (h : s.mcStep = 10) :
    detects .poll s = if 480 ≤ s.tosnap.toNat then some .x4 else none := by
  by_cases hlost : 480 ≤ s.tosnap.toNat
  · rw [if_pos hlost]
    exact passDetects_of_detected ((stepDetects_eq s).trans (if_pos ⟨h, hlost⟩))
  · have hverdict : signalLost s.tosnap = false := Bool.eq_false_iff.mpr (signalLost_eq_true.not.mpr hlost)
    rw [if_neg hlost]
    exact detects_poll_of_next_gt (microStep_test_signal h hverdict)
      ((stepDetects_eq s).trans (if_neg fun h' => hlost h'.2)) (show 10 < (17 : BitVec 5).toNat by decide)

/-- What a whole pass detects: it compares TIMEOUT, and only in DMX mode. -/
theorem detects_poll_at_start {s : State} (h : s.mcStep = 0) :
    detects .poll s = if s.pins.getLsbD 9 = s.cfg.modePinDmx ∧ 480 ≤ s.timeout.toNat then some .x4 else none := by
  by_cases hmode : s.pins.getLsbD 9 = s.cfg.modePinDmx
  · rw [(withinPass_toTest h hmode).detects_poll (show (10 : BitVec 5).toNat ≤ 10 by decide), detects_poll_at_test rfl]
    exact if_congr (and_iff_right hmode).symm rfl rfl
  · rw [(withinPass_head h).detects_poll (show (5 : BitVec 5).toNat ≤ 10 by decide), if_neg fun h' => hmode h'.1]
    exact detects_poll_of_next_gt (microStep_dispatch_fun rfl (switchDecode_mode_fun hmode))
      (stepDetects_of_ne (show (5 : BitVec 5) ≠ 10 by decide)) (show 10 < (18 : BitVec 5).toNat by decide)

/-- The micro-steps of a pass, as MSTEPs none of which ends it. -/
theorem withinPass_iff {k : Nat} {s t : State} : WithinPass k s t ↔
    (∀ j u, 0 < j → j ≤ k → execAll (List.replicate j .mstep) s = .next u → u.mcStep ≠ 0) ∧
    execAll (List.replicate k .mstep) s = .next t := by
  refine ⟨fun h => ⟨fun j u hpos hj hrun => ?_, h.execAll⟩, fun h => ?_⟩
  · obtain ⟨v, hv⟩ := h.take hj
    cases hv.execAll.symm.trans hrun
    exact hv.mcStep_ne_zero hpos
  · induction k generalizing s with
    | zero =>
      cases h.2
      exact .start t
    | succ k ih =>
      obtain ⟨hne, hrun⟩ := h
      obtain ⟨v, hstep, hrest⟩ := andThen_eq_next.mp hrun
      refine .step hstep (hne 1 v Nat.one_pos (Nat.succ_pos k) (execAll_cons_of_next hstep))
        (ih ⟨fun j u hpos hj hu => ?_, hrest⟩)
      exact hne (j + 1) u (Nat.succ_pos j) (Nat.succ_le_succ hj) ((execAll_cons_of_next hstep).trans hu)

/-- X5 is the watchdog's (R268). -/
theorem eq_wdtx_of_rowDetects {i : Instr} {s : State} (h : rowDetects i s = some .x5) : i = .wdtx := by
  cases i
  case rxBreak => rw [rowDetects] at h; split at h <;> cases h
  case rxData d => rw [rowDetects] at h; split at h <;> cases h
  case mcTest => rw [rowDetects] at h; split at h <;> cases h
  case wdtx => rfl
  all_goals cases h

/-- X4 is MC.TEST's (R211). -/
theorem eq_mcTest_of_rowDetects {i : Instr} {s : State} (h : rowDetects i s = some .x4) : i = .mcTest := by
  cases i
  case rxBreak => rw [rowDetects] at h; split at h <;> cases h
  case rxData d => rw [rowDetects] at h; split at h <;> cases h
  case mcTest => rfl
  all_goals cases h

/-- A character detects what its row does, or nothing. -/
theorem rowDetects_of_detects_rxc {f : Bool} {d : Byte} {s : State} {c : Condition} (h : detects (.rxc f d) s = some c) :
    rowDetects (decodeRxc (charWord f d)) s = some c := by
  rw [detects_rxc] at h
  split at h
  · exact h
  · cases h

theorem eq_wdtx_of_detects {i : Instr} {s : State} (h : detects i s = some .x5) : i = .wdtx := by
  cases i
  case rxc f d =>
    have hsite : (decodeRxc (charWord f d)).site = .rxc := (encode_of_decodeRxc _).1
    rw [eq_wdtx_of_rowDetects (rowDetects_of_detects_rxc h)] at hsite
    cases hsite
  case poll => rcases passDetects_cases 25 s with hp | hp <;> cases hp.symm.trans h
  case mstep =>
    have hstep := (stepDetects_eq s).symm.trans h
    split at hstep <;> cases hstep
  all_goals exact eq_wdtx_of_rowDetects (s := s) h

theorem eq_mstep_or_poll_of_detects {i : Instr} {s : State} (hi : i.site = .evt) (h : detects i s = some .x4) :
    i = .mstep ∨ i = .poll := by
  cases i <;> cases hi
  case rxc f d =>
    have hsite : (decodeRxc (charWord f d)).site = .rxc := (encode_of_decodeRxc _).1
    rw [eq_mcTest_of_rowDetects (rowDetects_of_detects_rxc h)] at hsite
    cases hsite
  case poll => exact .inr rfl
  case mstep => exact .inl rfl
  all_goals cases h

/-- Settles O57: MC.TEST is the only source of X4, and a pass has it at one place. -/
theorem lossIsDetectedByTheControllerAlone : Obligations.LossIsDetectedByTheControllerAlone := by
  unfold Obligations.LossIsDetectedByTheControllerAlone
  refine ⟨fun s h => (stepDetects_eq s).trans (if_congr (and_iff_right h) rfl rfl), fun s h => stepDetects_of_ne h,
    fun s h => detects_poll_at_start h, fun s h => detects_poll_of_gt (by omega), passDetects_cases 25, fun s => ⟨fun h => ?_,
    fun ⟨k, t, hne, hrun, hpos, hlost⟩ => ?_⟩, fun s => ⟨rfl, rfl⟩, fun _ _ => eq_wdtx_of_detects,
    fun _ _ => eq_mstep_or_poll_of_detects⟩
  · obtain ⟨k, t, hpass, hloss⟩ := withinPass_of_passDetects h
    obtain ⟨hne, hrun⟩ := withinPass_iff.mp hpass
    exact ⟨k, t, hne, hrun, hloss⟩
  · rw [(withinPass_iff.mpr ⟨hne, hrun⟩).detects_poll (by rw [hpos]; decide), detects_poll_at_test hpos, if_pos hlost]

end Sys2Proof.Machine

/-! The statements on the writers of TIMEOUT and ADDRESS (R33, R35, R41), alone and over whole passes. -/

namespace Sys2Proof.Machine

open Sys2Proof

/-! ## The writers among the rows -/

theorem exec_mcsRow_timeout {i : Instr} {s t : State} (hi : i.site = .mcs) (h : exec i s = .next t) :
    t.timeout = s.timeout ∨ i = .mcClamp0 ∨ i = .mcClamp1 := by
  cases i <;> cases hi
  case mcClamp0 => exact .inr (.inl rfl)
  case mcClamp1 => exact .inr (.inr rfl)
  case mcFundec => cases (exec_mcFundec s).symm.trans h; exact .inl rfl
  all_goals cases h; exact .inl rfl

theorem exec_mcsRow_address {i : Instr} {s t : State} (hi : i.site = .mcs) (h : exec i s = .next t) :
    t.address = s.address ∨ i = .mcWraddr0 ∨ i = .mcWraddr1 := by
  cases i <;> cases hi
  case mcWraddr0 => exact .inr (.inl rfl)
  case mcWraddr1 => exact .inr (.inr rfl)
  case mcFundec => cases (exec_mcFundec s).symm.trans h; exact .inl rfl
  all_goals cases h; exact .inl rfl

theorem exec_mcsRow_swlatch {i : Instr} {s t : State} (hi : i.site = .mcs) (h : exec i s = .next t) :
    t.swlatch = s.swlatch ∨ i = .mcRdsw := by
  cases i <;> cases hi
  case mcRdsw => exact .inr rfl
  case mcFundec => cases (exec_mcFundec s).symm.trans h; exact .inl rfl
  all_goals cases h; exact .inl rfl

/-- A row that changes TIMEOUT is the last slice, RX.BREAK or one of the clamp (R33). -/
theorem exec_row_timeout {i : Instr} {s t : State} (hi : i.site ≠ .evt) (h : exec i s = .next t)
    (hne : t.timeout ≠ s.timeout) : i ∈ [Instr.pwmP0, .rxBreak, .mcClamp0, .mcClamp1] := by
  simp only [List.mem_cons, List.not_mem_nil, or_false]
  cases hsite : i.site with
  | phase =>
    by_contra hnot
    exact hne (exec_slice_counters hsite (fun hlast => hnot (.inl hlast)) h).2
  | rxc =>
    by_contra hnot
    exact hne (exec_rxcRow_disp_timeout hsite (fun hbreak => hnot (.inr (.inl hbreak))) h).2
  | mcs => exact .inr (.inr ((exec_mcsRow_timeout hsite h).resolve_left hne))
  | fun9 =>
    obtain ⟨c, hrun⟩ := exec_fun9Row hsite s
    cases hrun.symm.trans h
    exact absurd rfl hne
  | sww =>
    obtain ⟨w, hrun⟩ := exec_swwRow hsite s
    cases hrun.symm.trans h
    exact absurd rfl hne
  | evt => exact absurd hsite hi

/-- A row that changes ADDRESS is one of the two that write it (R35). -/
theorem exec_row_address {i : Instr} {s t : State} (hi : i.site ≠ .evt) (h : exec i s = .next t)
    (hne : t.address ≠ s.address) : i ∈ [Instr.mcWraddr0, .mcWraddr1] := by
  simp only [List.mem_cons, List.not_mem_nil, or_false]
  cases hsite : i.site with
  | phase => exact absurd ((exec_slice_writesOnly hsite h).congr State.address) hne
  | rxc => exact absurd ((exec_rxcRow_writesOnly hsite h).congr State.address) hne
  | mcs => exact (exec_mcsRow_address hsite h).resolve_left hne
  | fun9 =>
    obtain ⟨c, hrun⟩ := exec_fun9Row hsite s
    cases hrun.symm.trans h
    exact absurd rfl hne
  | sww =>
    obtain ⟨w, hrun⟩ := exec_swwRow hsite s
    cases hrun.symm.trans h
    exact absurd rfl hne
  | evt => exact absurd hsite hi

/-! ## The writers among the micro-steps -/

theorem microStep_timeout {s t : State} (h : microStep s = .next t) : t.timeout = s.timeout ∨
    (s.mcStep = 14 ∧ exec .mcClamp0 s = .next t) ∨ (s.mcStep = 15 ∧ exec .mcClamp1 s = .next t) := by
  obtain ⟨i, hdec, hsite, hrow⟩ := microStep_cases h
  have hpos := mcStep_of_decodeMcs hdec
  rcases exec_mcsRow_timeout hsite hrow with hkeep | rfl | rfl
  · exact .inl hkeep
  · exact .inr (.inl ⟨hpos, hrow⟩)
  · exact .inr (.inr ⟨hpos, hrow⟩)

theorem microStep_address {s t : State} (h : microStep s = .next t) : t.address = s.address ∨
    (s.mcStep = 3 ∧ exec .mcWraddr0 s = .next t) ∨ (s.mcStep = 4 ∧ exec .mcWraddr1 s = .next t) := by
  obtain ⟨i, hdec, hsite, hrow⟩ := microStep_cases h
  have hpos := mcStep_of_decodeMcs hdec
  rcases exec_mcsRow_address hsite hrow with hkeep | rfl | rfl
  · exact .inl hkeep
  · exact .inr (.inl ⟨hpos, hrow⟩)
  · exact .inr (.inr ⟨hpos, hrow⟩)

theorem microStep_swlatch {s t : State} (h : microStep s = .next t) : t.swlatch = s.swlatch ∨ s.mcStep = 1 := by
  obtain ⟨i, hdec, hsite, hrow⟩ := microStep_cases h
  have hpos := mcStep_of_decodeMcs hdec
  rcases exec_mcsRow_swlatch hsite hrow with hkeep | rfl
  · exact .inl hkeep
  · exact .inr hpos

/-! ## The writers within a pass -/

theorem mcStepLegal_of_exec_poll {s t : State} (h : exec .poll s = .next t) : s.mcStepLegal := by
  by_contra hs
  cases ((pollFinishesThePassInProgress s).2 hs).symm.trans h

/-- What no micro-step from position `n` on writes, a POLL from there on keeps. -/
theorem exec_poll_keeps {α : Type} {f : State → α} {n : Nat}
    (hstep : ∀ s t, n ≤ s.mcStep.toNat → microStep s = .next t → f t = f s) {s t : State} (hs : n ≤ s.mcStep.toNat)
    (h : exec .poll s = .next t) : f t = f s := by
  refine pass_induction (P := fun s => n ≤ s.mcStep.toNat → ∀ t, exec .poll s = .next t → f t = f s)
    (fun s u _ hu hrest hs t h => ?_) (mcStepLegal_of_exec_poll h) hs t h
  rw [exec_poll_of_microStep hu] at h
  have hkeep := hstep s u hs hu
  by_cases hend : u.mcStep = 0
  · rw [if_pos hend] at h
    cases h
    exact hkeep
  · rw [if_neg hend] at h
    have hlt := (microStep_next_cases hu).2.2.lt hend
    exact (hrest hend (by omega) t h).trans hkeep

/-- Behind the clamp a POLL keeps TIMEOUT. -/
theorem exec_poll_timeout_of_ge {s t : State} (hs : 16 ≤ s.mcStep.toNat) (h : exec .poll s = .next t) :
    t.timeout = s.timeout := by
  refine exec_poll_keeps (n := 16) (fun s t hs h => (microStep_timeout h).resolve_right ?_) hs h
  rintro (⟨hpos, -⟩ | ⟨hpos, -⟩) <;> rw [hpos] at hs <;> revert hs <;> decide

/-- Behind the writes of ADDRESS a POLL keeps it, and the switch word it was written from. -/
theorem exec_poll_address_of_ge {s t : State} (hs : 5 ≤ s.mcStep.toNat) (h : exec .poll s = .next t) :
    t.address = s.address ∧ t.swlatch = s.swlatch := by
  refine ⟨exec_poll_keeps (n := 5) (fun s t hs h => (microStep_address h).resolve_right ?_) hs h,
    exec_poll_keeps (n := 5) (fun s t hs h => (microStep_swlatch h).resolve_right ?_) hs h⟩
  · rintro (⟨hpos, -⟩ | ⟨hpos, -⟩) <;> rw [hpos] at hs <;> revert hs <;> decide
  · intro hpos
    rw [hpos] at hs
    revert hs
    decide

/-- A POLL from MC.CLAMP0 leaves the threshold. -/
theorem exec_poll_timeout_at_clamp {s t : State} (hs : s.mcStep = 14) (h : exec .poll s = .next t) : t.timeout = 480 := by
  rw [(withinPass_clamp hs).exec_poll] at h
  exact exec_poll_timeout_of_ge (show 16 ≤ (16 : BitVec 5).toNat by decide) h

/-- A POLL from MC.WRADDR0 leaves the switch word's address. -/
theorem exec_poll_address_at_write {s t : State} (hs : s.mcStep = 3) (h : exec .poll s = .next t) :
    t.address = ~~~(t.swlatch.extractLsb' 0 9) := by
  rw [(withinPass_address hs).exec_poll] at h
  obtain ⟨haddr, hlatch⟩ := exec_poll_address_of_ge (show 5 ≤ (5 : BitVec 5).toNat by decide) h
  rw [haddr, hlatch]
  rfl

/-- A POLL after its first micro-step, where that does not end the pass. -/
theorem exec_poll_rest {s u t : State} (hu : microStep s = .next u) (h : exec .poll s = .next t) :
    t = u ∨ (u.mcStep ≠ 0 ∧ exec .poll u = .next t) := by
  rw [exec_poll_of_microStep hu] at h
  split at h
  · cases h
    exact .inl rfl
  next hne => exact .inr ⟨hne, h⟩

/-- A position that no branch and no end of a pass leads to follows its predecessor. -/
theorem successor.eq_add_one {x : Counter} {n m : BitVec 5} (h : successor x n m) (hm : m ≠ 0 ∧ m ≠ 17 ∧ m ≠ 18) :
    m.toNat = n.toNat + 1 := by
  obtain ⟨hend, hsignal, hfun⟩ := hm
  rcases h with ⟨hnext, -⟩ | ⟨-, h⟩ | ⟨-, h, -⟩ | ⟨h, -⟩
  · exact hnext
  · exact absurd h hfun
  · exact absurd h hsignal
  · exact absurd h hend

/-- What a POLL from `s` to `t` that changes ADDRESS did: it started no later than the writes, and they came from the latched
switch word. -/
def PollWroteAddress (s t : State) : Prop :=
  (s.mcStep.toNat ≤ 3 ∧ t.address = ~~~(t.swlatch.extractLsb' 0 9)) ∨
  (s.mcStep = 4 ∧ ∃ u, exec .mcWraddr1 s = .next u ∧ t.address = u.address)

theorem exec_poll_address {s t : State} (h : exec .poll s = .next t) (hne : t.address ≠ s.address) : PollWroteAddress s t := by
  refine pass_induction (P := fun s => ∀ t, exec .poll s = .next t → t.address ≠ s.address → PollWroteAddress s t)
    (fun s u _ hu hrest t h hne => ?_) (mcStepLegal_of_exec_poll h) t h hne
  have hsucc := (microStep_next_cases hu).2.2
  rcases microStep_address hu with hkeep | ⟨hpos, -⟩ | ⟨hpos, hrow⟩
  · rcases exec_poll_rest hu h with rfl | ⟨hend, hpoll⟩
    · exact absurd hkeep hne
    · have hlt := hsucc.lt hend
      rcases hrest hend t hpoll (hkeep ▸ hne) with ⟨hpos, haddr⟩ | ⟨hpos, -⟩
      · exact .inl ⟨by omega, haddr⟩
      · have hpred := hsucc.eq_add_one (by rw [hpos]; decide)
        rw [hpos] at hpred
        have hwrite : s.mcStep = 3 := BitVec.eq_of_toNat_eq (Nat.succ.inj hpred).symm
        exact .inl ⟨by rw [hwrite]; decide, exec_poll_address_at_write hwrite h⟩
  · exact .inl ⟨by rw [hpos]; decide, exec_poll_address_at_write hpos h⟩
  · refine .inr ⟨hpos, u, hrow, ?_⟩
    cases hrow
    rcases exec_poll_rest hu h with rfl | ⟨-, hpoll⟩
    · rfl
    · exact (exec_poll_address_of_ge (show 5 ≤ (5 : BitVec 5).toNat by decide) hpoll).1

/-- What a POLL from `s` to `t` that changes TIMEOUT did: it ran the clamp, after a test that found the signal lost. -/
def PollWroteTimeout (s t : State) : Prop :=
  (s.mcStep.toNat ≤ 10 → detects .poll s = some .x4) ∧
  ((s.mcStep.toNat ≤ 14 ∧ t.timeout = 480) ∨
   (s.mcStep = 15 ∧ ∃ u, exec .mcClamp1 s = .next u ∧ t.timeout = u.timeout))

/-- If the pass goes on to the loss branch, it detects X4 from each position up to MC.TEST. -/
theorem detects_poll_of_rest {s u : State} (hu : microStep s = .next u) (hend : u.mcStep ≠ 0) (hpos : u.mcStep.toNat ≤ 15)
    (hrest : u.mcStep.toNat ≤ 10 → detects .poll u = some .x4) (hs : s.mcStep.toNat ≤ 10) : detects .poll s = some .x4 := by
  obtain ⟨-, -, hsucc⟩ := microStep_next_cases hu
  by_cases htest : s.mcStep = 10
  · rcases hsucc with ⟨-, -, hlost⟩ | ⟨hbranch, -⟩ | ⟨-, hsignal, -⟩ | ⟨hzero, -⟩
    · rw [detects_poll_at_test htest, if_pos (signalLost_eq_true.mp (hlost htest))]
    · cases hbranch.symm.trans htest
    · rw [hsignal] at hpos
      exact absurd hpos (by decide)
    · exact absurd hzero hend
  · have hnext : u.mcStep.toNat ≤ 10 := by
      have hlow : s.mcStep.toNat ≠ 10 := fun h => htest (BitVec.eq_of_toNat_eq h)
      have hstep := hsucc.eq_add_one ⟨hend, fun h => absurd (h ▸ hpos) (by decide), fun h => absurd (h ▸ hpos) (by decide)⟩
      omega
    rw [detects_poll_of_microStep hu (stepDetects_of_ne htest), if_neg hend, hrest hnext]

theorem pollWroteTimeout_at_clamp {s t : State} (hs : s.mcStep = 14) (h : exec .poll s = .next t) : PollWroteTimeout s t := by
  refine ⟨fun hle => ?_, .inl ⟨by rw [hs]; decide, exec_poll_timeout_at_clamp hs h⟩⟩
  rw [hs] at hle
  exact absurd hle (by decide)

theorem exec_poll_timeout {s t : State} (h : exec .poll s = .next t) (hne : t.timeout ≠ s.timeout) : PollWroteTimeout s t := by
  refine pass_induction (P := fun s => ∀ t, exec .poll s = .next t → t.timeout ≠ s.timeout → PollWroteTimeout s t)
    (fun s u _ hu hrest t h hne => ?_) (mcStepLegal_of_exec_poll h) t h hne
  have hsucc := (microStep_next_cases hu).2.2
  rcases microStep_timeout hu with hkeep | ⟨hpos, -⟩ | ⟨hpos, hrow⟩
  · rcases exec_poll_rest hu h with rfl | ⟨hend, hpoll⟩
    · exact absurd hkeep hne
    · have hlt := hsucc.lt hend
      obtain ⟨hdet, hwrote⟩ := hrest hend t hpoll (hkeep ▸ hne)
      rcases hwrote with ⟨hpos, hclamp⟩ | ⟨hpos, -⟩
      · exact ⟨detects_poll_of_rest hu hend (by omega) hdet, .inl ⟨by omega, hclamp⟩⟩
      · have hpred := hsucc.eq_add_one (by rw [hpos]; decide)
        rw [hpos] at hpred
        exact pollWroteTimeout_at_clamp (BitVec.eq_of_toNat_eq (Nat.succ.inj hpred).symm) h
  · exact pollWroteTimeout_at_clamp hpos h
  · refine ⟨fun hle => ?_, .inr ⟨hpos, u, hrow, ?_⟩⟩
    · rw [hpos] at hle
      exact absurd hle (by decide)
    · cases hrow
      rcases exec_poll_rest hu h with rfl | ⟨-, hpoll⟩
      · rfl
      · exact exec_poll_timeout_of_ge (show 16 ≤ (16 : BitVec 5).toNat by decide) hpoll

/-! ## The two statements -/

/-- Settles O58: the last slice, the commit and the clamp are the writers, and a pass has only the clamp. -/
theorem timeoutHasThreeWriters : Obligations.TimeoutHasThreeWriters := by
  unfold Obligations.TimeoutHasThreeWriters
  refine ⟨fun i s t hi h hne => ?_, fun _ _ _ => exec_row_timeout⟩
  cases i <;> cases hi
  case tmr =>
    obtain ⟨hOn, ⟨k, -, -, rfl⟩ | ⟨hlast, rfl⟩⟩ := exec_tmr_cases h
    · exact absurd rfl hne
    · exact .inr (.inl ⟨rfl, hOn, hlast, rfl⟩)
  case rxc f d =>
    rcases exec_rxc_commit_cases h with ⟨rfl, rfl, hOn, hgood, hlen, rfl⟩ | ⟨-, hkeep⟩
    · exact .inr (.inr (.inl ⟨rfl, hOn, hgood, hlen, rfl⟩))
    · exact absurd hkeep hne
  case mstep => exact .inr (.inr (.inr (.inl ⟨rfl, (microStep_timeout h).resolve_left hne⟩)))
  case poll => exact .inr (.inr (.inr (.inr ⟨rfl, exec_poll_timeout h hne⟩)))
  case sw => cases h; exact absurd rfl hne
  case wdtx => exact .inl rfl
  case por => exact .inl rfl

/-- Settles O59: the mode controller alone writes ADDRESS, in two micro-steps of a pass. -/
theorem addressHasOneWriter : Obligations.AddressHasOneWriter := by
  unfold Obligations.AddressHasOneWriter
  refine ⟨fun i s t hi h hne => ?_, fun _ _ _ => exec_row_address⟩
  cases i <;> cases hi
  case tmr => exact absurd ((exec_tmr_writesOnly h).congr State.address) hne
  case rxc => exact absurd ((exec_rxc_writesOnly h).congr State.address) hne
  case mstep => exact .inr (.inl ⟨rfl, (microStep_address h).resolve_left hne⟩)
  case poll => exact .inr (.inr ⟨rfl, exec_poll_address h hne⟩)
  case sw => cases h; exact absurd rfl hne
  case wdtx => exact .inl rfl
  case por => exact .inl rfl

end Sys2Proof.Machine
